-- ==== Sys2Proof/Word.lean ====
section
/-! DEFINITION. The widths of the block's values: the wire byte (R11) and the transaction word (R77). -/

namespace Sys2Proof

/-- A wire byte (`RawByte`), and every 8-bit element of the state (R11). Bit 0 is the least significant (R13). -/
abbrev Byte := BitVec 8

/-- A transaction word: `op = w[11:8]`, `arg = w[7:0]` (R77). -/
abbrev TransactionWord := BitVec 12

end Sys2Proof
end

