-- ==== Sys2Proof/Config.lean ====
section
/-! DEFINITION. What the spec leaves OPEN or to a free draw: constants with no body, and the reset default of
`ATOMIC_POP`. -/

namespace Sys2Proof

/-- DESIGN CHOICE (log 4; safe). `N = 2^k` with `k >= 1` is OPEN (R8, D3). This is `k - 1` of the block that
`State.reset` describes; it has no body, so nothing can be proved of one capacity only. A state with another `k` is
a state like any other: `k` is a field of it. -/
opaque Config.ringBitsLessOne : Nat

/-- The width `k` of a ring index of the block that `State.reset` describes; at least 1 by its form (R8, R9). -/
def Config.ringBits : Nat := Config.ringBitsLessOne + 1

/-- `ATOMIC_POP` has the default `true` (R10, D10). DESIGN CHOICE (log 5; safe): `State.reset` takes the default. -/
def Config.atomicPop : Bool := true

/-- DESIGN CHOICE (log 11; safe). The draw that the second half of a split pop makes (R184): on the `n`-th draw,
`true` means that `tail` is written from the re-read index, `false` from the latched one. It has no body. -/
opaque Config.commitRereads : Nat → Bool

end Sys2Proof
end

