-- ==== Sys2Proof/Syntax.lean ====
section
/-! DEFINITION. The transactions of the block, one constructor per row of `spec/opcode_table.json`, the two agents
that issue them, the reasons a transaction is refused, and the message record. -/

namespace Sys2Proof

/-- The two agents, which are also the two execution contexts (R180, R214). -/
inductive Agent where
  | producer
  | consumer
deriving DecidableEq, Repr

/-- The transactions (R78). An operand has the width of its row's field in the table, so every term is a
transaction: no operand can leave its byte class. -/
inductive Instr where
  /-- PUSH, the byte pushed (R100). -/
  | push (b : Byte)
  /-- POP (R106). -/
  | pop
  /-- TAKE_OVERFLOW (R110). -/
  | takeOverflow
  /-- FEED of a data byte, its 7-bit value (R152). -/
  | feedData (value : BitVec 7)
  /-- FEED of status `0x8n` (R145). -/
  | feedNoteOff (channel : BitVec 4)
  /-- FEED of status `0x9n` (R146). -/
  | feedNoteOn (channel : BitVec 4)
  /-- FEED of status `0xAn` (R147). -/
  | feedPolyPressure (channel : BitVec 4)
  /-- FEED of status `0xBn` (R148). -/
  | feedControlChange (channel : BitVec 4)
  /-- FEED of status `0xCn` (R149). -/
  | feedProgramChange (channel : BitVec 4)
  /-- FEED of status `0xDn` (R150). -/
  | feedChannelPressure (channel : BitVec 4)
  /-- FEED of status `0xEn` (R151). -/
  | feedPitchBend (channel : BitVec 4)
  /-- FEED of a system status `0xF0 .. 0xF7`, its low three bits (R143). -/
  | feedSystem (value : BitVec 3)
  /-- FEED of a real-time byte `0xF8 .. 0xFF`, its low three bits (R140). -/
  | feedRealtime (value : BitVec 3)
  /-- FORCE_DESYNC (R160). -/
  | forceDesync
  /-- STEP (R181). -/
  | step
deriving DecidableEq, Repr

/-- One transaction word as an agent issues it: a line of an encoded trace (R18, R84). -/
structure Issue where
  agent : Agent
  word : TransactionWord
deriving DecidableEq, Repr

/-- The three reasons of R204. -/
inductive RefusalReason where
  /-- PUSH issued by the consumer, or a consumer transaction issued by the producer (R102, R108, R214). -/
  | wrongContext
  /-- A word that spells no transaction (R82). -/
  | reservedWord
  /-- A consumer transaction other than STEP while a split pop is in flight (R186). -/
  | splitPopInFlight
deriving DecidableEq, Repr

/-- `MidiMsg.len` takes the values 1, 2 and 3 (R11). -/
inductive MsgLen where
  | one
  | two
  | three
deriving DecidableEq, Repr

/-- The output message: a record of separate fields, never a packed word (R52, R75). -/
structure MidiMsg where
  status : Byte
  d1 : Byte
  d2 : Byte
  len : MsgLen
deriving DecidableEq, Repr

/-- The classes of a wire byte (R70). -/
inductive ByteClass where
  | data
  | channelVoice
  | system
  | realtime
deriving DecidableEq, Repr

end Sys2Proof
end

