-- ==== Sys2Proof/WellFormed.lean ====
section
/-! DEFINITION. The checks on what an agent hands to the block: that its word spells a transaction (R82), that the
transaction is one its context may issue (R214), and that a FEED row's byte lies in the row's range (R78). -/

namespace Sys2Proof

/-- The context that may issue a transaction (R78, R214). -/
def Instr.context : Instr → Agent
  | .push _ => .producer
  | .pop => .consumer
  | .takeOverflow => .consumer
  | .feedData _ => .consumer
  | .feedNoteOff _ => .consumer
  | .feedNoteOn _ => .consumer
  | .feedPolyPressure _ => .consumer
  | .feedControlChange _ => .consumer
  | .feedProgramChange _ => .consumer
  | .feedChannelPressure _ => .consumer
  | .feedPitchBend _ => .consumer
  | .feedSystem _ => .consumer
  | .feedRealtime _ => .consumer
  | .forceDesync => .consumer
  | .step => .consumer

/-- May agent `a` issue transaction `i`? (R214) -/
def contextAllows (a : Agent) (i : Instr) : Bool := decide (a = i.context)

/-- The reserved words: `op` in `0x6 .. 0xF`, or a nonzero `arg` on an op without an argument (R82). -/
def wordReserved (w : TransactionWord) : Bool :=
  let op := w.toNat / 256
  let arg := w.toNat % 256
  decide (6 ≤ op) || ((op == 1 || op == 2 || op == 4 || op == 5) && arg != 0)

/-- The byte operand of a transaction word, `arg = w[7:0]` (R77); 0 where the row has none. -/
def Instr.argByte : Instr → Byte
  | .push b => b
  | .pop => 0x00
  | .takeOverflow => 0x00
  | .feedData v => 0#1 ++ v
  | .feedNoteOff c => 0x8#4 ++ c
  | .feedNoteOn c => 0x9#4 ++ c
  | .feedPolyPressure c => 0xA#4 ++ c
  | .feedControlChange c => 0xB#4 ++ c
  | .feedProgramChange c => 0xC#4 ++ c
  | .feedChannelPressure c => 0xD#4 ++ c
  | .feedPitchBend c => 0xE#4 ++ c
  | .feedSystem v => 0b11110#5 ++ v
  | .feedRealtime v => 0b11111#5 ++ v
  | .forceDesync => 0x00
  | .step => 0x00

/-- The least and the greatest `arg` of a row, as the table's format column gives them (R78). -/
def Instr.argRange : Instr → Nat × Nat
  | .push _ => (0x00, 0xFF)
  | .pop => (0x00, 0x00)
  | .takeOverflow => (0x00, 0x00)
  | .feedData _ => (0x00, 0x7F)
  | .feedNoteOff _ => (0x80, 0x8F)
  | .feedNoteOn _ => (0x90, 0x9F)
  | .feedPolyPressure _ => (0xA0, 0xAF)
  | .feedControlChange _ => (0xB0, 0xBF)
  | .feedProgramChange _ => (0xC0, 0xCF)
  | .feedChannelPressure _ => (0xD0, 0xDF)
  | .feedPitchBend _ => (0xE0, 0xEF)
  | .feedSystem _ => (0xF0, 0xF7)
  | .feedRealtime _ => (0xF8, 0xFF)
  | .forceDesync => (0x00, 0x00)
  | .step => (0x00, 0x00)

/-- Does byte `b` lie in the row of `i`? -/
def argInRow (i : Instr) (b : Byte) : Bool :=
  decide (i.argRange.1 ≤ b.toNat) && decide (b.toNat ≤ i.argRange.2)

/-- A transaction is well-formed when its own byte lies in its row. The operand widths make every term so
(`Laws.WellFormedByType`); the check that can fail is `argInRow` on a byte of another row. -/
def Instr.wellFormed (i : Instr) : Bool := argInRow i i.argByte

end Sys2Proof
end

