-- ==== Sys2Proof/Decode.lean ====
section
/-! DEFINITION. The decoder of transaction words, total, from the rows of `spec/opcode_table.json` (R78, R83), and
the encoder written from the same table. -/

namespace Sys2Proof

/-- A row of the opcode table: a word `w` spells the row when `w &&& mask = pattern` (R83). -/
structure OpcodeRow where
  mnemonic : String
  mask : TransactionWord
  pattern : TransactionWord
  build : TransactionWord → Instr

/-- Does the word spell the row? -/
def OpcodeRow.accepts (r : OpcodeRow) (w : TransactionWord) : Bool := w &&& r.mask == r.pattern

/-- The field `w[hi:0]` of `n` bits (R13). -/
def lowField (n : Nat) (w : TransactionWord) : BitVec n := w.extractLsb' 0 n

/-- The 15 rows, in the table's order (R78). -/
def opcodeTable : List OpcodeRow := [
  ⟨"PUSH", 0xF00, 0x000, fun w => .push (lowField 8 w)⟩,
  ⟨"POP", 0xFFF, 0x100, fun _ => .pop⟩,
  ⟨"TAKE_OVERFLOW", 0xFFF, 0x200, fun _ => .takeOverflow⟩,
  ⟨"FEED.DATA", 0xF80, 0x300, fun w => .feedData (lowField 7 w)⟩,
  ⟨"FEED.NOTE_OFF", 0xFF0, 0x380, fun w => .feedNoteOff (lowField 4 w)⟩,
  ⟨"FEED.NOTE_ON", 0xFF0, 0x390, fun w => .feedNoteOn (lowField 4 w)⟩,
  ⟨"FEED.POLY_PRESSURE", 0xFF0, 0x3A0, fun w => .feedPolyPressure (lowField 4 w)⟩,
  ⟨"FEED.CONTROL_CHANGE", 0xFF0, 0x3B0, fun w => .feedControlChange (lowField 4 w)⟩,
  ⟨"FEED.PROGRAM_CHANGE", 0xFF0, 0x3C0, fun w => .feedProgramChange (lowField 4 w)⟩,
  ⟨"FEED.CHANNEL_PRESSURE", 0xFF0, 0x3D0, fun w => .feedChannelPressure (lowField 4 w)⟩,
  ⟨"FEED.PITCH_BEND", 0xFF0, 0x3E0, fun w => .feedPitchBend (lowField 4 w)⟩,
  ⟨"FEED.SYSTEM", 0xFF8, 0x3F0, fun w => .feedSystem (lowField 3 w)⟩,
  ⟨"FEED.REALTIME", 0xFF8, 0x3F8, fun w => .feedRealtime (lowField 3 w)⟩,
  ⟨"FORCE_DESYNC", 0xFFF, 0x400, fun _ => .forceDesync⟩,
  ⟨"STEP", 0xFFF, 0x500, fun _ => .step⟩]

/-- The decoder: the row that accepts the word, or the refusal `ReservedWord` where none does (R82, R83). -/
def decode (w : TransactionWord) : Except RefusalReason Instr :=
  match opcodeTable.find? (·.accepts w) with
  | some r => .ok (r.build w)
  | none => .error .reservedWord

/-- The encoder: `op` in bits 11..8 and the row's fixed bits, then its field (R77, R78). -/
def encode : Instr → TransactionWord
  | .push b => 0x0#4 ++ b
  | .pop => 0x100
  | .takeOverflow => 0x200
  | .feedData v => 0b00110#5 ++ v
  | .feedNoteOff c => 0x38#8 ++ c
  | .feedNoteOn c => 0x39#8 ++ c
  | .feedPolyPressure c => 0x3A#8 ++ c
  | .feedControlChange c => 0x3B#8 ++ c
  | .feedProgramChange c => 0x3C#8 ++ c
  | .feedChannelPressure c => 0x3D#8 ++ c
  | .feedPitchBend c => 0x3E#8 ++ c
  | .feedSystem v => 0b001111110#9 ++ v
  | .feedRealtime v => 0b001111111#9 ++ v
  | .forceDesync => 0x400
  | .step => 0x500

/-- The FEED row that byte `b` selects (R70, R78): what the word `0x3bb` decodes to. -/
def feedInstr (b : Byte) : Instr :=
  if b.toNat < 0x80 then .feedData (b.extractLsb' 0 7)
  else if b.toNat < 0x90 then .feedNoteOff (b.extractLsb' 0 4)
  else if b.toNat < 0xA0 then .feedNoteOn (b.extractLsb' 0 4)
  else if b.toNat < 0xB0 then .feedPolyPressure (b.extractLsb' 0 4)
  else if b.toNat < 0xC0 then .feedControlChange (b.extractLsb' 0 4)
  else if b.toNat < 0xD0 then .feedProgramChange (b.extractLsb' 0 4)
  else if b.toNat < 0xE0 then .feedChannelPressure (b.extractLsb' 0 4)
  else if b.toNat < 0xF0 then .feedPitchBend (b.extractLsb' 0 4)
  else if b.toNat < 0xF8 then .feedSystem (b.extractLsb' 0 3)
  else .feedRealtime (b.extractLsb' 0 3)

/-- The number `w`, of `nbits` bits, as a transaction word: none where it needs more than 12 bits. DESIGN CHOICE
(log 1; safe): a word has no byte order (R52), so the number's bits are the word's bits. -/
def wordOfNumber (nbits w : Nat) : Option TransactionWord :=
  let v := w % 2 ^ nbits
  if v < 4096 then some (BitVec.ofNat 12 v) else none

/-- The transaction the decoder reads from the number `w` of `nbits` bits, bit 0 the least significant. -/
def decodeTableWord (nbits w : Nat) : Option Instr :=
  match wordOfNumber nbits w with
  | some v => (decode v).toOption
  | none => none

end Sys2Proof
end

