-- ==== Sys2Proof/Machine/State.lean ====
section
/-! DEFINITION. The state of the block as plain data (R20, R21, R36, R79, R204), the machine's stops, and reset
(R231). -/

namespace Sys2Proof.Machine

/-- The slot space: (slot, byte) cells, slots strictly rising, none equal to what an unlisted slot reads as (R50). -/
abbrev Memory := List Host.Cell

/-- The parameters fixed for the life of the block (R8, R9, R10, R38). They are no registers: no transaction writes
them. DESIGN CHOICE (log 4; safe): they travel in State, since a step takes only a State. -/
structure Params where
  /-- `k = log2 N`, at least 1. -/
  k : Nat
  /-- `ATOMIC_POP`. -/
  atomicPop : Bool
deriving DecidableEq, Repr

/-- The RingBuffer (R22 to R25). -/
structure Transport where
  slots : Memory
  head : Nat
  tail : Nat
  ovf : Bool
deriving DecidableEq, Repr

/-- The ParserState (R27 to R32). -/
structure Parser where
  runningStatus : Byte
  currentStatus : Byte
  bytesNeeded : Fin 3
  bytesHave : Bool
  pendingD1 : Byte
  desynced : Bool
deriving DecidableEq, Repr

/-- The position in the reference consumer loop (R34). -/
inductive Phase where
  | poll
  | check
  | commit
deriving DecidableEq, Repr

/-- The sequencer: the phase and the two latches of a split pop (R34, R35). -/
structure Sequencer where
  phase : Phase
  latchT : Nat
  latchB : Byte
deriving DecidableEq, Repr

/-- What a transaction returns to the agent that issued it (R79, R190). -/
inductive Response where
  /-- PUSH, FORCE_DESYNC and STEP return nothing. -/
  | nothing
  /-- POP of an empty buffer returns EMPTY. -/
  | empty
  /-- POP returns a byte. -/
  | byte (b : Byte)
  /-- TAKE_OVERFLOW returns 1 or 0. -/
  | flag (r : Bool)
  /-- FEED returns NONE. -/
  | noMessage
  /-- FEED returns a message. -/
  | message (m : MidiMsg)
  /-- A refused transaction returns its refusal (R190, R204). -/
  | refused (r : RefusalReason)
deriving DecidableEq, Repr

/-- Why the machine stops with a fault: never. The block raises no exception and no operation fails fatally (R200),
so the type has no constructor. Safe: it rules nothing in. -/
inductive Fault
deriving DecidableEq, Repr

/-- Why a step has no meaning. The spec's own refusals (R204) are no stops: they change the state (the refusal mark
is set) and the run goes on, see `State.refuse`. -/
inductive Refusal where
  /-- An instruction whose meaning is not written; raised by `exec` only, for no instruction of this model. Safe. -/
  | notModelled (mnemonic : String)
deriving DecidableEq, Repr

/-- Everything the spec gives the block, then the model's own fields. -/
structure State where
  params : Params
  transport : Transport
  parser : Parser
  sequencer : Sequencer
  /-- The output log, in emission order (R36). DESIGN CHOICE (log 13; safe): a field of State, read by no transaction. -/
  out : List MidiMsg
  /-- The sticky refusal mark (R204, R231). -/
  refusalMark : Bool
  /-- The last response the producer got (R79). DESIGN CHOICE (log 9; safe): none at reset. -/
  producerResponse : Option Response
  /-- The last response the consumer got (R79). DESIGN CHOICE (log 9; safe): none at reset. -/
  consumerResponse : Option Response
  /-- The transactions issued and not yet performed, in interleaving order (R84, R188). DESIGN CHOICE (log 2; safe). -/
  schedule : List Issue
  /-- The agent whose transaction is being performed (R180). DESIGN CHOICE (log 10; safe). -/
  issuer : Agent
  /-- How many draws of R184 have been made. DESIGN CHOICE (log 11; safe). -/
  draws : Nat
deriving DecidableEq, Repr

/-- The reset state of a block with the given parameters (R231). `slots` lists nothing: every slot reads as the
unlisted byte (log 6). -/
def State.resetWith (p : Params) : State where
  params := p
  transport := { slots := [], head := 0, tail := 0, ovf := false }
  parser := { runningStatus := 0x00#8, currentStatus := 0x00#8, bytesNeeded := 0, bytesHave := false,
              pendingD1 := 0x00#8, desynced := false }
  sequencer := { phase := .poll, latchT := 0, latchB := 0x00#8 }
  out := []
  refusalMark := false
  producerResponse := none
  consumerResponse := none
  schedule := []
  issuer := .consumer
  draws := 0

/-- The machine right after reset (R231): `k` OPEN (log 4), `ATOMIC_POP` its default (log 5). -/
def State.reset : State := State.resetWith { k := Config.ringBits, atomicPop := Config.atomicPop }

end Sys2Proof.Machine
end

