-- ==== Sys2Proof/Machine/Operands.lean ====
section
/-! DEFINITION. The operand forms: the byte a FEED row hands to the parser, the classes and fields of a byte, the
message fields (R70 to R76), and the ring indices (R9, R26). -/

namespace Sys2Proof.Machine

/-- A data byte from its 7-bit value: bit 7 is 0 (R73). -/
def dataByte (value : BitVec 7) : Byte := 0#1 ++ value

/-- A channel-voice status byte from its kind `s[7:4]` and its channel `s[3:0]` (R71). -/
def statusByte (kind channel : BitVec 4) : Byte := kind ++ channel

/-- A system status byte `0xF0 .. 0xF7` from its low three bits (R74). -/
def systemByte (value : BitVec 3) : Byte := 0b11110#5 ++ value

/-- A real-time byte `0xF8 .. 0xFF` from its low three bits (R74). -/
def realtimeByte (value : BitVec 3) : Byte := 0b11111#5 ++ value

/-- `b >= 0xF8` (R131, case 1). -/
def isRealtime (b : Byte) : Bool := decide (0xF8 ≤ b.toNat)

/-- `b < 0x80` (R131, case 2). -/
def isData (b : Byte) : Bool := decide (b.toNat < 0x80)

/-- `b[7] == 1` (R131, case 3). -/
def isStatus (b : Byte) : Bool := b.getLsbD 7

/-- `b >= 0xF0`, tested after the real-time class (R131, case 3). -/
def isSystem (b : Byte) : Bool := decide (0xF0 ≤ b.toNat)

/-- The class of a byte, by its value alone, in the priority order of R131 (R70). -/
def byteClass (b : Byte) : ByteClass :=
  if isRealtime b then .realtime
  else if isStatus b then (if isSystem b then .system else .channelVoice)
  else .data

/-- The message kind, the high nibble `s[7:4]` (R71, R72). -/
def kindOf (s : Byte) : BitVec 4 := s.extractLsb' 4 4

/-- The channel, the low nibble `s[3:0]` (R71); the block itself never separates it. -/
def channelOf (s : Byte) : BitVec 4 := s.extractLsb' 0 4

/-- `need(x)`: 0 for no status, 1 for kinds `0xC` and `0xD`, 2 otherwise (R41, R72). -/
def need (x : Byte) : Fin 3 :=
  if x = 0x00#8 then 0 else if kindOf x = 0xC#4 ∨ kindOf x = 0xD#4 then 1 else 2

/-- The length-1 message of a real-time byte (R75, R76). -/
def realtimeMsg (b : Byte) : MidiMsg := { status := b, d1 := 0x00#8, d2 := 0x00#8, len := .one }

/-- The length-2 message of a one-data-byte status (R75, R76). -/
def twoByteMsg (status d1 : Byte) : MidiMsg := { status := status, d1 := d1, d2 := 0x00#8, len := .two }

/-- The length-3 message of a two-data-byte status (R75, R76). -/
def threeByteMsg (status d1 d2 : Byte) : MidiMsg := { status := status, d1 := d1, d2 := d2, len := .three }

/-- `N = 2^k` (R8). -/
def Params.ringSize (p : Params) : Nat := 2 ^ p.k

/-- `(i + 1) mod N` (R14). -/
def Params.nextIndex (p : Params) (i : Nat) : Nat := (i + 1) % p.ringSize

/-- `count = (head - tail) mod N` (R26). -/
def Params.count (p : Params) (t : Transport) : Nat := (t.head + (p.ringSize - t.tail % p.ringSize)) % p.ringSize

/-- `empty = (head == tail)` (R26). -/
def Transport.isEmpty (t : Transport) : Bool := decide (t.head = t.tail)

/-- `full = ((head + 1) mod N == tail)` (R26). -/
def Params.isFull (p : Params) (t : Transport) : Bool := decide (p.nextIndex t.head = t.tail)

end Sys2Proof.Machine
end

