-- ==== Sys2Proof/Machine/Flags.lean ====
section
/-! DEFINITION. The flags `ovf`, `desynced` and `bytes_have` (R37): every way one of them is set or cleared, with the
counters cleared beside them. -/

namespace Sys2Proof.Machine

/-- An overflow PUSH sets `ovf`; a second overflow leaves it 1 (R25, R111). -/
def Transport.raiseOverflow (t : Transport) : Transport := { t with ovf := true }

/-- The clear of TAKE_OVERFLOW (R110); the value read is `t.ovf` before it. -/
def Transport.clearOverflow (t : Transport) : Transport := { t with ovf := false }

/-- A status byte `0x80 .. 0xF7` ends the desync (R142). -/
def Parser.endDesync (p : Parser) : Parser := { p with desynced := false }

/-- Running status, the message in progress and the byte-need counters cleared (R143, R160). -/
def Parser.clearTracking (p : Parser) : Parser :=
  { p with runningStatus := 0x00#8, currentStatus := 0x00#8, bytesNeeded := 0, bytesHave := false }

/-- A channel-voice status byte: a new running status, `bytes_needed` from its kind, `bytes_have` reset (R144). -/
def Parser.startStatus (b : Byte) (p : Parser) : Parser :=
  { p with runningStatus := b, currentStatus := b, bytesNeeded := need b, bytesHave := false }

/-- The first of two data bytes is stashed and `bytes_have` set (R156). -/
def Parser.stash (b : Byte) (p : Parser) : Parser := { p with pendingD1 := b, bytesHave := true }

/-- After a length-2 message `current_status` is cleared (R155). -/
def Parser.finishTwo (p : Parser) : Parser := { p with currentStatus := 0x00#8 }

/-- After a length-3 message `current_status` and `bytes_have` are cleared (R157). -/
def Parser.finishThree (p : Parser) : Parser := { p with currentStatus := 0x00#8, bytesHave := false }

end Sys2Proof.Machine
end

