-- ==== Sys2Proof/Machine/Ops.lean ====
section
/-! DEFINITION. The operations the meanings share: the slot space (R50), the transport (R100, R106), the parser
(R131, R160), the hand-off of a message (R14), the responses (R79), and the refusal of a transaction (R204).

The block has no exception to take and none to return from (R200, R211, R212): its one shared stop-like operation is
the refusal, `State.refuse`. -/

namespace Sys2Proof.Machine

/-! ## The slot space -/

/-- What a slot that is not listed reads as. DESIGN CHOICE (log 6; unsafe): the reset contents are a free draw, and
`93_implementation_defined.md` row 2 lets a model fix them to 0, since they are never observable (R234). -/
def unlistedByte : Byte := 0x00#8

/-- The canonical form: slots strictly rising, and no cell holding what an unlisted slot reads as. -/
abbrev Memory.wf (m : Memory) : Prop :=
  m.Pairwise (fun c d => c.1 < d.1) ∧ ∀ c ∈ m, c.2 ≠ unlistedByte

/-- Every listed slot is one of `0 .. n-1` (R50). -/
abbrev Memory.within (n : Nat) (m : Memory) : Prop := ∀ c ∈ m, c.1 < n

/-- The byte of slot `a`. -/
def Memory.read (m : Memory) (a : Nat) : Byte :=
  match m with
  | [] => unlistedByte
  | c :: rest => if c.1 = a then c.2 else Memory.read rest a

/-- The cell `(a, b)` put in its place by slot. -/
def Memory.insertCell (m : Memory) (a : Nat) (b : Byte) : Memory :=
  match m with
  | [] => [(a, b)]
  | c :: rest => if a < c.1 then (a, b) :: c :: rest else c :: Memory.insertCell rest a b

/-- Slot `a` gets byte `b`; a cell equal to what an unlisted slot reads as is left out. -/
def Memory.write (m : Memory) (a : Nat) (b : Byte) : Memory :=
  let others : Memory := m.filter (fun c => decide (c.1 ≠ a))
  if b = unlistedByte then others else others.insertCell a b

/-- `buf[i]` (R14). Index arithmetic wraps modulo `N`, so no access is out of range (R53).
DESIGN CHOICE (log 12; safe): the access wraps in the states outside WF1 too. -/
def Params.readSlot (p : Params) (t : Transport) (i : Nat) : Byte := t.slots.read (i % p.ringSize)

/-- `buf[i] <- b` (R14). -/
def Params.writeSlot (p : Params) (t : Transport) (i : Nat) (b : Byte) : Transport :=
  { t with slots := t.slots.write (i % p.ringSize) b }

/-! ## The transport -/

/-- The destructive recovery: `tail <- 0; head <- 0; buf[0] <- b; head <- 1; ovf <- 1` (R100, R101). -/
def Params.overflowPush (p : Params) (b : Byte) (t : Transport) : Transport :=
  ({ p.writeSlot { t with tail := 0, head := 0 } 0 b with head := 1 } : Transport).raiseOverflow

/-- `buf[head] <- b; head <- (head + 1) mod N` (R100). -/
def Params.normalPush (p : Params) (b : Byte) (t : Transport) : Transport :=
  { p.writeSlot t t.head b with head := p.nextIndex t.head }

/-- PUSH on the transport (R100). -/
def Params.push (p : Params) (b : Byte) (t : Transport) : Transport :=
  if p.isFull t then p.overflowPush b t else p.normalPush b t

/-- The byte a pop of a non-empty buffer returns, `buf[tail]` (R106). -/
def Params.popByte (p : Params) (t : Transport) : Byte := p.readSlot t t.tail

/-- `tail <- (tail + 1) mod N` (R106). -/
def Params.popAdvance (p : Params) (t : Transport) : Transport := { t with tail := p.nextIndex t.tail }

/-! ## The parser -/

/-- The running-status continuation: with no message in progress, `running_status` is adopted (R154). -/
def Parser.adopt (p : Parser) : Parser :=
  if p.currentStatus = 0x00#8 then { p with currentStatus := p.runningStatus } else p

/-- Case 4 after the adoption: R155, R156, R157, or no message when `bytes_needed` is 0 (R158). -/
def Parser.collect (b : Byte) (p : Parser) : Parser × Option MidiMsg :=
  if p.bytesNeeded = 1 then (p.finishTwo, some (twoByteMsg p.currentStatus b))
  else if p.bytesNeeded = 2 then
    if p.bytesHave then (p.finishThree, some (threeByteMsg p.currentStatus p.pendingD1 b))
    else (p.stash b, none)
  else (p, none)

/-- Case 4, a data byte: stray with no status at all (R153), else collected (R152). -/
def Parser.dataCase (b : Byte) (p : Parser) : Parser × Option MidiMsg :=
  if p.currentStatus = 0x00#8 ∧ p.runningStatus = 0x00#8 then (p, none) else p.adopt.collect b

/-- Case 3, a status byte below `0xF8`: a system status (R143) or a channel-voice status (R144). -/
def Parser.statusCase (b : Byte) (p : Parser) : Parser × Option MidiMsg :=
  if isSystem b then (p.clearTracking, none) else (p.startStatus b, none)

/-- FEED on the parser: the four cases in priority order (R130, R131). -/
def Parser.feed (b : Byte) (p : Parser) : Parser × Option MidiMsg :=
  if isRealtime b then (p, some (realtimeMsg b))
  else if p.desynced && isData b then (p, none)
  else if isStatus b then p.endDesync.statusCase b
  else p.dataCase b

/-- FORCE_DESYNC on the parser (R160); it clears `pending_d1` too (D5). -/
def Parser.forceDesync (p : Parser) : Parser := { p.clearTracking with pendingD1 := 0x00#8, desynced := true }

/-- FEED of the bytes one after another, and the messages in emission order (`feedseq`, R85). -/
def Parser.feedAll (bs : List Byte) (p : Parser) : Parser × List MidiMsg :=
  match bs with
  | [] => (p, [])
  | b :: rest =>
    let one := p.feed b
    let more := Parser.feedAll rest one.1
    (more.1, one.2.toList ++ more.2)

/-! ## The state: message hand-off, responses, refusals -/

/-- `emit m`: the message, if any, is appended to `out` (R14, R36). -/
def State.emit (m : Option MidiMsg) (s : State) : State := { s with out := s.out ++ m.toList }

/-- The response goes to the agent that issued the transaction (R79). -/
def State.respond (r : Response) (s : State) : State :=
  { s with
    producerResponse := match s.issuer with
      | .producer => some r
      | .consumer => s.producerResponse
    consumerResponse := match s.issuer with
      | .producer => s.consumerResponse
      | .consumer => some r }

/-- `refuse <Reason>`: no state changes, the sticky refusal mark is set, and the issuing agent gets the refusal
(R190, R204). DEDUCED (log 7; safe): the run goes on after it (D23), so it is a next state. -/
def State.refuse (r : RefusalReason) (s : State) : State := { s with refusalMark := true }.respond (.refused r)

/-- FEED of `b` inside the block: the parser moves and a message it emits goes to `out` (R131). -/
def State.feed (b : Byte) (s : State) : State :=
  State.emit (s.parser.feed b).2 { s with parser := (s.parser.feed b).1 }

/-- What FEED of `b` returns: the message or NONE (R79, R132). -/
def State.feedResponse (b : Byte) (s : State) : Response :=
  match (s.parser.feed b).2 with
  | some m => .message m
  | none => .noMessage

/-- The transport replaced. -/
def State.withTransport (t : Transport) (s : State) : State := { s with transport := t }

/-- The parser replaced. -/
def State.withParser (p : Parser) (s : State) : State := { s with parser := p }

/-- The phase replaced (R14). -/
def State.withPhase (ph : Phase) (s : State) : State := { s with sequencer := { s.sequencer with phase := ph } }

/-- A producer transaction: refused from the consumer (R102), in any phase otherwise performed (R184, R189). -/
def producerTransaction (run : State → State) (s : State) : Host.Outcome State Fault Refusal :=
  .next (match s.issuer with
    | .consumer => s.refuse .wrongContext
    | .producer => run s)

/-- A consumer transaction other than STEP: refused from the producer (R108, R110, R130, R160), refused while a split
pop is in flight (R186), performed otherwise. DESIGN CHOICE (log 8; unsafe): the context is tested first. -/
def consumerTransaction (run : State → State) (s : State) : Host.Outcome State Fault Refusal :=
  .next (match s.issuer, s.sequencer.phase with
    | .producer, _ => s.refuse .wrongContext
    | .consumer, .commit => s.refuse .splitPopInFlight
    | .consumer, _ => run s)

/-- STEP: refused from the producer, always enabled for the consumer (R181). -/
def stepTransaction (run : State → State) (s : State) : Host.Outcome State Fault Refusal :=
  .next (match s.issuer with
    | .producer => s.refuse .wrongContext
    | .consumer => run s)

/-- The FEED transaction of byte `b`, shared by the ten rows (R131). -/
def feedTransaction (b : Byte) (s : State) : Host.Outcome State Fault Refusal :=
  consumerTransaction (fun s => (s.feed b).respond (s.feedResponse b)) s

end Sys2Proof.Machine
end

