-- ==== Sys2Proof/Machine/ByteTransport.lean ====
section
/-! DEFINITION. The transactions of the ByteTransport: PUSH, POP and TAKE_OVERFLOW (`40_transport.md`). -/

namespace Sys2Proof.Machine

/-- PUSH (R100): store the byte, or recover destructively when the buffer is full. -/
def execPush (b : Byte) (s : State) : Host.Outcome State Fault Refusal :=
  producerTransaction (fun s => (s.withTransport (s.params.push b s.transport)).respond .nothing) s

/-- POP (R106): EMPTY and no state change on an empty buffer (R107), else the byte at `tail`. Atomic in both modes
(D22); it does not feed the parser. -/
def execPop (s : State) : Host.Outcome State Fault Refusal :=
  consumerTransaction
    (fun s =>
      if s.transport.isEmpty then s.respond .empty
      else (s.withTransport (s.params.popAdvance s.transport)).respond (.byte (s.params.popByte s.transport)))
    s

/-- TAKE_OVERFLOW (R110): read and clear the flag in one step, whether or not the buffer is empty (R112). -/
def execTakeOverflow (s : State) : Host.Outcome State Fault Refusal :=
  consumerTransaction (fun s => (s.withTransport s.transport.clearOverflow).respond (.flag s.transport.ovf)) s

end Sys2Proof.Machine
end

