-- ==== Sys2Proof/Machine/MidiParser.lean ====
section
/-! DEFINITION. The transactions of the MidiParser: the ten FEED rows and FORCE_DESYNC (`41_parser.md`). Each FEED
row hands its own byte to the one FEED of R131. -/

namespace Sys2Proof.Machine

/-- FEED.DATA, `0x00 .. 0x7F` (R141, R152 to R158). -/
def execFeedData (value : BitVec 7) (s : State) : Host.Outcome State Fault Refusal :=
  feedTransaction (dataByte value) s

/-- FEED.NOTE_OFF, `0x80 .. 0x8F` (R145). -/
def execFeedNoteOff (channel : BitVec 4) (s : State) : Host.Outcome State Fault Refusal :=
  feedTransaction (statusByte 0x8 channel) s

/-- FEED.NOTE_ON, `0x90 .. 0x9F` (R146). -/
def execFeedNoteOn (channel : BitVec 4) (s : State) : Host.Outcome State Fault Refusal :=
  feedTransaction (statusByte 0x9 channel) s

/-- FEED.POLY_PRESSURE, `0xA0 .. 0xAF` (R147). -/
def execFeedPolyPressure (channel : BitVec 4) (s : State) : Host.Outcome State Fault Refusal :=
  feedTransaction (statusByte 0xA channel) s

/-- FEED.CONTROL_CHANGE, `0xB0 .. 0xBF` (R148). -/
def execFeedControlChange (channel : BitVec 4) (s : State) : Host.Outcome State Fault Refusal :=
  feedTransaction (statusByte 0xB channel) s

/-- FEED.PROGRAM_CHANGE, `0xC0 .. 0xCF` (R149). -/
def execFeedProgramChange (channel : BitVec 4) (s : State) : Host.Outcome State Fault Refusal :=
  feedTransaction (statusByte 0xC channel) s

/-- FEED.CHANNEL_PRESSURE, `0xD0 .. 0xDF` (R150). -/
def execFeedChannelPressure (channel : BitVec 4) (s : State) : Host.Outcome State Fault Refusal :=
  feedTransaction (statusByte 0xD channel) s

/-- FEED.PITCH_BEND, `0xE0 .. 0xEF` (R151). -/
def execFeedPitchBend (channel : BitVec 4) (s : State) : Host.Outcome State Fault Refusal :=
  feedTransaction (statusByte 0xE channel) s

/-- FEED.SYSTEM, `0xF0 .. 0xF7` (R143). -/
def execFeedSystem (value : BitVec 3) (s : State) : Host.Outcome State Fault Refusal :=
  feedTransaction (systemByte value) s

/-- FEED.REALTIME, `0xF8 .. 0xFF` (R140). -/
def execFeedRealtime (value : BitVec 3) (s : State) : Host.Outcome State Fault Refusal :=
  feedTransaction (realtimeByte value) s

/-- FORCE_DESYNC (R160): the whole parser state discarded, the transport untouched. -/
def execForceDesync (s : State) : Host.Outcome State Fault Refusal :=
  consumerTransaction (fun s => (s.withParser s.parser.forceDesync).respond .nothing) s

end Sys2Proof.Machine
end

