-- ==== Sys2Proof/Machine/Sequencer.lean ====
section
/-! DEFINITION. STEP, the reference consumer loop (`42_sequencer.md`). -/

namespace Sys2Proof.Machine

/-- Poll with an empty buffer: the empty observation, `phase <- Check` (R183). -/
def State.observeEmpty (s : State) : State := s.withPhase .check

/-- Poll with a byte to pop and `ATOMIC_POP`: pop it and feed it in one step (R182). -/
def State.popAndFeed (s : State) : State :=
  (s.withTransport (s.params.popAdvance s.transport)).feed (s.params.popByte s.transport)

/-- The first half of a split pop: the tail and its byte are latched (R184). -/
def State.latchPop (s : State) : State :=
  { s with sequencer := { phase := .commit, latchT := s.transport.tail, latchB := s.params.popByte s.transport } }

/-- The value the second half of a split pop writes to `tail`: the successor of the re-read index or of the latched
one, by the draw (R184). -/
def State.commitTail (rereads : Bool) (s : State) : Nat :=
  s.params.nextIndex (if rereads then s.transport.tail else s.sequencer.latchT)

/-- The second half of a split pop under the draw `rereads`: `tail` written, `phase <- Poll`, the latched byte fed
(R184). The draw counter advances on every commit. -/
def State.commitPop (rereads : Bool) (s : State) : State :=
  { (s.withTransport { s.transport with tail := s.commitTail rereads }).withPhase .poll with
      draws := s.draws + 1 }.feed s.sequencer.latchB

/-- Check: take the overflow flag, desync if it was set, `phase <- Poll` (R185). -/
def State.checkOverflow (s : State) : State :=
  ((s.withTransport s.transport.clearOverflow).withParser
    (if s.transport.ovf then s.parser.forceDesync else s.parser)).withPhase .poll

/-- One iteration step of the loop, dispatched on the phase (R181). In `Commit` it is the second half whatever
`ATOMIC_POP` is: DEDUCED (log 15; safe), the dispatch of R181 tests only the phase there. -/
def State.loopStep (s : State) : State :=
  match s.sequencer.phase with
  | .poll =>
    if s.transport.isEmpty then s.observeEmpty
    else if s.params.atomicPop then s.popAndFeed
    else s.latchPop
  | .commit => s.commitPop (Config.commitRereads s.draws)
  | .check => s.checkOverflow

/-- STEP (R181). It returns nothing: a message it emits reaches `out` only (R79). -/
def execStep (s : State) : Host.Outcome State Fault Refusal :=
  stepTransaction (fun s => s.loopStep.respond .nothing) s

end Sys2Proof.Machine
end

