-- ==== Sys2Proof/Machine/Dispatch.lean ====
section
/-! DEFINITION. One arm per transaction, each one call of its meaning. -/

namespace Sys2Proof.Machine

def exec (i : Instr) (s : State) : Host.Outcome State Fault Refusal :=
  match i with
  -- the ByteTransport
  | .push b => Sys2Proof.Machine.execPush b s
  | .pop => Sys2Proof.Machine.execPop s
  | .takeOverflow => Sys2Proof.Machine.execTakeOverflow s
  -- the MidiParser
  | .feedData value => Sys2Proof.Machine.execFeedData value s
  | .feedNoteOff channel => Sys2Proof.Machine.execFeedNoteOff channel s
  | .feedNoteOn channel => Sys2Proof.Machine.execFeedNoteOn channel s
  | .feedPolyPressure channel => Sys2Proof.Machine.execFeedPolyPressure channel s
  | .feedControlChange channel => Sys2Proof.Machine.execFeedControlChange channel s
  | .feedProgramChange channel => Sys2Proof.Machine.execFeedProgramChange channel s
  | .feedChannelPressure channel => Sys2Proof.Machine.execFeedChannelPressure channel s
  | .feedPitchBend channel => Sys2Proof.Machine.execFeedPitchBend channel s
  | .feedSystem value => Sys2Proof.Machine.execFeedSystem value s
  | .feedRealtime value => Sys2Proof.Machine.execFeedRealtime value s
  | .forceDesync => Sys2Proof.Machine.execForceDesync s
  -- the sequencer
  | .step => Sys2Proof.Machine.execStep s

end Sys2Proof.Machine
end

