-- ==== Sys2Proof/Machine/Fetch.lean ====
section
/-! DEFINITION. Which transaction is performed next. The block fetches no instructions (R63): its transactions are
issued by the two agents, and the schedule is the interleaving of what they issue (R188). -/

namespace Sys2Proof.Machine

/-- The next transaction: the head of the schedule, issued by its agent; DESIGN CHOICE (log 3; unsafe): with nothing
scheduled the main loop spins (R189), so the consumer issues STEP, which is always enabled (R181, R193). -/
def nextIssue (s : State) : Issue :=
  match s.schedule with
  | [] => { agent := .consumer, word := encode .step }
  | i :: _ => i

/-- The state in which that transaction is performed: it has left the schedule and its agent is the issuer. -/
def State.issued (s : State) : State := { s with schedule := s.schedule.tail, issuer := (nextIssue s).agent }

/-- Perform a transaction word: the transaction it spells, or the refusal of a reserved word (R82, R204). DEDUCED
(log 16; safe): a reserved word is refused as `ReservedWord` from either agent and in every phase. -/
def performWord (w : TransactionWord) (s : State) : Host.Outcome State Fault Refusal :=
  match decode w with
  | .ok i => exec i s
  | .error r => .next (s.refuse r)

/-- The agent that may issue the word's transaction (R78, and the unprefixed lines of R84); the consumer for a word
that spells none. -/
def wordAgent (w : TransactionWord) : Agent :=
  match decode w with
  | .ok i => i.context
  | .error _ => .consumer

/-- A word put where the next transaction is taken from, issued by the agent whose transaction it is. A number that
is no 12-bit word places nothing (log 1). -/
def State.placeWord (s : State) (nbits w : Nat) : State :=
  match wordOfNumber nbits w with
  | some v => { s with schedule := { agent := wordAgent v, word := v } :: s.schedule }
  | none => s

end Sys2Proof.Machine
end

