-- ==== Sys2Proof/Machine/Step.lean ====
section
/-! DEFINITION. One step of the block: one whole transaction of one agent (R188). -/

namespace Sys2Proof.Machine

/-- One step: the next transaction is taken and performed (R188). -/
def step (s : State) : Host.Outcome State Fault Refusal := performWord (nextIssue s).word s.issued

/-- `s` with the word stored where `step` takes its next transaction. -/
def State.withFetchWord (s : State) (nbits w : Nat) : State := s.placeWord nbits w

end Sys2Proof.Machine
end

