-- ==== Sys2Proof/Machine/Conditions.lean ====
section
/-! DEFINITION. The error taxonomy (R201, R202): which named condition a transaction meets. The labels are no state
and no transaction returns them. -/

namespace Sys2Proof.Machine

/-- The four labels (R201, D17). -/
inductive ErrorLabel where
  /-- `E_OVERFLOW`: buffer full on push. -/
  | overflow
  /-- `E_DESYNC`: an overflow taken by `Check`, or an external request. -/
  | desync
  /-- `E_IGNORED_SYSTEM`: a system status byte fed. -/
  | ignoredSystem
  /-- `E_STRAY`: a data byte fed with no active and no running status. -/
  | stray
deriving DecidableEq, Repr

/-- The condition the FEED of `b` meets (R201). A data byte discarded while desynced is none (R201). -/
def feedCondition (b : Byte) (p : Parser) : Option ErrorLabel :=
  match byteClass b with
  | .system => some .ignoredSystem
  | .data =>
    if p.desynced = false ∧ p.currentStatus = 0x00#8 ∧ p.runningStatus = 0x00#8 then some .stray else none
  | .channelVoice => none
  | .realtime => none

/-- The condition STEP meets (R201): the FEED's in `Poll` and `Commit`, the desync in `Check`. -/
def stepCondition (s : State) : Option ErrorLabel :=
  match s.sequencer.phase with
  | .poll =>
    if s.transport.isEmpty = false ∧ s.params.atomicPop = true then
      feedCondition (s.params.popByte s.transport) s.parser
    else none
  | .commit => feedCondition s.sequencer.latchB s.parser
  | .check => if s.transport.ovf then some .desync else none

/-- Is the transaction refused in this state (R204)? -/
def isRefused (i : Instr) (s : State) : Bool :=
  !contextAllows s.issuer i || (s.issuer == .consumer && s.sequencer.phase == .commit && i != .step)

/-- The condition a transaction meets, at most one (R202). A refused transaction meets none. DEDUCED (log 14; safe):
a FORCE_DESYNC issued directly is the external request of R187. -/
def errorCondition (i : Instr) (s : State) : Option ErrorLabel :=
  if isRefused i s then none
  else match i with
    | .push _ => if s.params.isFull s.transport then some .overflow else none
    | .pop => none
    | .takeOverflow => none
    | .forceDesync => some .desync
    | .step => stepCondition s
    | .feedData _ => feedCondition i.argByte s.parser
    | .feedNoteOff _ => feedCondition i.argByte s.parser
    | .feedNoteOn _ => feedCondition i.argByte s.parser
    | .feedPolyPressure _ => feedCondition i.argByte s.parser
    | .feedControlChange _ => feedCondition i.argByte s.parser
    | .feedProgramChange _ => feedCondition i.argByte s.parser
    | .feedChannelPressure _ => feedCondition i.argByte s.parser
    | .feedPitchBend _ => feedCondition i.argByte s.parser
    | .feedSystem _ => feedCondition i.argByte s.parser
    | .feedRealtime _ => feedCondition i.argByte s.parser

end Sys2Proof.Machine
end

