-- ==== Sys2Proof/Machine/Abstract.lean ====
section
/-! DEFINITION. The abstract views the spec gives of the state: the five parser states and their transition table
(R42, R43), and the queue of unread bytes the ring holds (R26, R104). -/

namespace Sys2Proof.Machine

/-- The abstract parser states (R42). -/
inductive AbsState where
  | desync
  | idle
  | run1
  | run2a
  | run2b
deriving DecidableEq, Repr

/-- The columns of the transition table (R43). -/
inductive AbsInput where
  | data
  | cv1
  | cv2
  | sys
  | rt
deriving DecidableEq, Repr

/-- The abstract state of a parser (R42). DESIGN CHOICE (log 19; safe): R42 defines the five states on `WF` parsers only;
the order of these tests gives a parser outside `WF` a state too. -/
def Parser.absState (p : Parser) : AbsState :=
  if p.desynced then .desync
  else if p.runningStatus = 0x00#8 then .idle
  else if p.bytesNeeded = 1 then .run1
  else if p.bytesHave then .run2b
  else .run2a

/-- The column of a byte (R43). -/
def absInput (b : Byte) : AbsInput :=
  match byteClass b with
  | .data => .data
  | .channelVoice => if need b = 1 then .cv1 else .cv2
  | .system => .sys
  | .realtime => .rt

/-- The transition table (R43): the next abstract state, and the length of the message emitted, if any. -/
def absNext : AbsState → AbsInput → AbsState × Option MsgLen
  | .desync, .data => (.desync, none)
  | .desync, .cv1 => (.run1, none)
  | .desync, .cv2 => (.run2a, none)
  | .desync, .sys => (.idle, none)
  | .desync, .rt => (.desync, some .one)
  | .idle, .data => (.idle, none)
  | .idle, .cv1 => (.run1, none)
  | .idle, .cv2 => (.run2a, none)
  | .idle, .sys => (.idle, none)
  | .idle, .rt => (.idle, some .one)
  | .run1, .data => (.run1, some .two)
  | .run1, .cv1 => (.run1, none)
  | .run1, .cv2 => (.run2a, none)
  | .run1, .sys => (.idle, none)
  | .run1, .rt => (.run1, some .one)
  | .run2a, .data => (.run2b, none)
  | .run2a, .cv1 => (.run1, none)
  | .run2a, .cv2 => (.run2a, none)
  | .run2a, .sys => (.idle, none)
  | .run2a, .rt => (.run2a, some .one)
  | .run2b, .data => (.run2a, some .three)
  | .run2b, .cv1 => (.run1, none)
  | .run2b, .cv2 => (.run2a, none)
  | .run2b, .sys => (.idle, none)
  | .run2b, .rt => (.run2b, some .one)

/-- The unread bytes, oldest first: the slots `tail, tail + 1, ...`, `count` of them (R26, R101). -/
def Params.contents (p : Params) (t : Transport) : List Byte :=
  (List.range (p.count t)).map (fun j => p.readSlot t (t.tail + j))

end Sys2Proof.Machine
end

