-- ==== Sys2Proof/Machine/Invariant.lean ====
section
/-! DEFINITION. Well-formed states (R41), the model's own invariant beside them, and the legality of an emitted
message (R164). -/

namespace Sys2Proof.Machine

/-- WF1: the ring indices are below `N` (R41). -/
abbrev WF1 (s : State) : Prop :=
  s.transport.head < s.params.ringSize ∧ s.transport.tail < s.params.ringSize

/-- WF2 (R41). -/
abbrev WF2 (p : Parser) : Prop :=
  p.runningStatus = 0x00#8 ∨ (0x80 ≤ p.runningStatus.toNat ∧ p.runningStatus.toNat ≤ 0xEF)

/-- WF3 (R41). -/
abbrev WF3 (p : Parser) : Prop := p.currentStatus = 0x00#8 ∨ p.currentStatus = p.runningStatus

/-- WF4 (R41). -/
abbrev WF4 (p : Parser) : Prop := p.bytesNeeded = need p.runningStatus

/-- WF5 (R41). -/
abbrev WF5 (p : Parser) : Prop := p.bytesHave = true → p.currentStatus ≠ 0x00#8 ∧ p.bytesNeeded = 2

/-- WF6 (R41). -/
abbrev WF6 (p : Parser) : Prop := p.pendingD1.toNat < 0x80

/-- WF7 (R41). -/
abbrev WF7 (p : Parser) : Prop :=
  p.desynced = true →
    p.runningStatus = 0x00#8 ∧ p.currentStatus = 0x00#8 ∧ p.bytesNeeded = 0 ∧ p.bytesHave = false

/-- WF8 (R41). -/
abbrev WF8 (s : State) : Prop := s.sequencer.phase = .commit → s.params.atomicPop = false

/-- The parser's part of `WF`. -/
abbrev Parser.WF (p : Parser) : Prop := WF2 p ∧ WF3 p ∧ WF4 p ∧ WF5 p ∧ WF6 p ∧ WF7 p

/-- `WF(s)` (R41). -/
abbrev State.WF (s : State) : Prop := WF1 s ∧ s.parser.WF ∧ WF8 s

/-- `k >= 1`, so `N >= 2` (R8). -/
abbrev State.ParamsOk (s : State) : Prop := 1 ≤ s.params.k

/-- The slot space keeps its canonical form and lists slots `0 .. N-1` only (R50). -/
abbrev State.MemoryOk (s : State) : Prop :=
  Memory.wf s.transport.slots ∧ Memory.within s.params.ringSize s.transport.slots

/-- The latched index is below `N` (R21). -/
abbrev State.LatchOk (s : State) : Prop := s.sequencer.latchT < s.params.ringSize

/-- What every step keeps: the legal parameters, `WF`, the latch's legal value, the canonical slot space. -/
abbrev State.Inv (s : State) : Prop := s.ParamsOk ∧ s.WF ∧ s.LatchOk ∧ s.MemoryOk

/-- What an emitted message satisfies (R164, first sentence). -/
abbrev MsgLegal (m : MidiMsg) : Prop :=
  match m.len with
  | .one => 0xF8 ≤ m.status.toNat ∧ m.d1 = 0x00#8 ∧ m.d2 = 0x00#8
  | .two => (kindOf m.status = 0xC#4 ∨ kindOf m.status = 0xD#4) ∧ m.d1.toNat < 0x80 ∧ m.d2 = 0x00#8
  | .three =>
    (kindOf m.status = 0x8#4 ∨ kindOf m.status = 0x9#4 ∨ kindOf m.status = 0xA#4 ∨ kindOf m.status = 0xB#4 ∨
      kindOf m.status = 0xE#4) ∧ m.d1.toNat < 0x80 ∧ m.d2.toNat < 0x80

/-- Every message of the output log is legal (R164). -/
abbrev State.OutLegal (s : State) : Prop := ∀ m ∈ s.out, MsgLegal m

/-- The consumer's turn with no split pop in flight: its transactions are performed, not refused (R186, R204). -/
abbrev State.ConsumerTurn (s : State) : Prop := s.issuer = .consumer ∧ s.sequencer.phase ≠ .commit

end Sys2Proof.Machine
end

