-- ==== Sys2Proof/Machine/Observation.lean ====
section
/-! DEFINITION. Settled states and the observation of a finite input (R193). -/

namespace Sys2Proof.Machine

/-- `head == tail`, `ovf == 0` and `phase == Poll` (R193). -/
def State.settled (s : State) : Bool :=
  s.transport.isEmpty && !s.transport.ovf && decide (s.sequencer.phase = .poll)

/-- Is this issue a PUSH that the block will perform? A PUSH of the consumer is refused (R102) and is none (log 21). -/
def issueIsPush (i : Issue) : Bool :=
  match i.agent, decode i.word with
  | .producer, .ok (.push _) => true
  | _, _ => false

/-- Has the last PUSH of the input been performed? -/
def State.inputDone (s : State) : Bool := !s.schedule.any issueIsPush

/-- `out` at the first settled state after the last PUSH, looked for within `fuel` steps (R193). DESIGN CHOICE (log 21;
unsafe): R193 speaks of an input that has a PUSH; for one that has none this is `out` at the first settled state from
the start, even when other transactions are still scheduled. -/
def observation (fuel : Nat) (s : State) : Option (List MidiMsg) :=
  if s.inputDone && s.settled then some s.out
  else match fuel with
    | 0 => none
    | n + 1 =>
      match step s with
      | .next t => observation n t
      | .fault _ => none
      | .refused _ => none

end Sys2Proof.Machine
end

