-- ==== Sys2Proof/Machine/Trace.lean ====
section
/-! DEFINITION. Traces, the assembler-equivalent of the block: their lines, their text and its reading, their encoding,
and the pseudo-transactions (R84, R85). -/

namespace Sys2Proof.Machine

/-- What a trace line says, its agent apart (R84). -/
inductive TraceOp where
  | push (b : Byte)
  | pop
  | takeOverflow
  | feed (b : Byte)
  | forceDesync
  | step
deriving DecidableEq, Repr

/-- A trace line; the agent is written `P:` or `C:`, or left out (R84). -/
structure TraceLine where
  agent : Option Agent
  op : TraceOp
deriving DecidableEq, Repr

/-- The transaction a line names; the byte of a `feed` selects its row (R78, R84). -/
def TraceOp.instr : TraceOp → Instr
  | .push b => .push b
  | .pop => .pop
  | .takeOverflow => .takeOverflow
  | .feed b => feedInstr b
  | .forceDesync => .forceDesync
  | .step => .step

/-- A line without an agent: `push` is the producer's, every other line the consumer's (R84). -/
def TraceOp.defaultAgent : TraceOp → Agent
  | .push _ => .producer
  | .pop | .takeOverflow | .feed _ | .forceDesync | .step => .consumer

/-- The transaction word of a line and the agent that issues it (R84). -/
def TraceLine.issue (l : TraceLine) : Issue :=
  { agent := l.agent.getD l.op.defaultAgent, word := encode l.op.instr }

/-- A trace's encoding (R84). -/
def encodeTrace (ls : List TraceLine) : List Issue := ls.map TraceLine.issue

/-- An unmarked line. -/
def plainLine (op : TraceOp) : TraceLine := { agent := none, op := op }

/-- `send {b1,...,bn}`: pushes with no other step between (R85). -/
def send (bs : List Byte) : List TraceLine := bs.map (fun b => plainLine (.push b))

/-- `feedseq {b1,...,bn}` (R85). -/
def feedseq (bs : List Byte) : List TraceLine := bs.map (fun b => plainLine (.feed b))

/-- How many STEPs `drain` is, from phase `Poll` with `count = c` and no interleaved PUSH (R85, conflict C9). -/
def drainSteps (atomicPop : Bool) (c : Nat) : Nat := if atomicPop then c + 2 else 2 * c + 2

/-- `drain` from phase `Poll` with `count = c` (R85). -/
def drain (atomicPop : Bool) (c : Nat) : List TraceLine := List.replicate (drainSteps atomicPop c) (plainLine .step)

/-! ## The expansion of `drain` from any state

`drain` is STEP repeated until a STEP in `Check` has been performed with the buffer empty (R85). DEDUCED (log 20;
safe): a buffer that is empty in `Check` is one that no PUSH has reached since the empty observation, so the state in
which the STEP is performed says whether it is the last. -/

/-- The transaction of a trace line or word performed at once by its agent. A transaction always answers a next state
(R200), so the other two outcomes do not arise. -/
def State.perform (i : Issue) (s : State) : State :=
  match performWord i.word { s with issuer := i.agent } with
  | .next t => t
  | .fault _ => s
  | .refused _ => s

/-- The lines of a trace performed one after another. -/
def State.performLines (ls : List TraceLine) (s : State) : State := ls.foldl (fun t l => t.perform l.issue) s

/-- Does the STEP performed in this state end a `drain` (R85)? -/
def State.endsDrain (s : State) : Bool := decide (s.sequencer.phase = .check) && s.transport.isEmpty

/-- `drain` from `s` with the bytes of `gaps` pushed between its STEPs, the first list after the first STEP, looked for
within `fuel` STEPs. -/
def drainWithin (fuel : Nat) (gaps : List (List Byte)) (s : State) : Option (List TraceLine) :=
  match fuel with
  | 0 => none
  | n + 1 =>
    if s.endsDrain then some [plainLine .step]
    else
      let round := plainLine .step :: send (gaps.headD [])
      (drainWithin n gaps.tail (s.performLines round)).map (fun ls => round ++ ls)

/-- The expansion of `drain` from any state, whatever its phase, with the bytes of `gaps` pushed between its STEPs
(R85). After the last PUSH `2(N - 1) + 3` STEPs are enough (R193). -/
def State.drainExpansion (gaps : List (List Byte)) (s : State) : Option (List TraceLine) :=
  drainWithin (gaps.length + (2 * (s.params.ringSize - 1) + 3)) gaps s

/-- The trace issued after everything already scheduled. -/
def State.issueTrace (ls : List TraceLine) (s : State) : State := { s with schedule := s.schedule ++ encodeTrace ls }

/-! ## Trace text

DESIGN CHOICE (log 18; safe): R84 names the keywords, the two byte forms, the agent marks and the comment mark; what
separates words, which case a hexadecimal digit has, how many digits a byte has when it is read, how several lines are
written as one, and what a malformed line gives are the model's. -/

/-- The characters of a hexadecimal digit, its value below 16. -/
def hexDigit (n : Nat) : Char := if n < 10 then Char.ofNat (48 + n) else Char.ofNat (55 + n)

/-- A byte as `0xNN` (R84). -/
def byteText (b : Byte) : List Char := ['0', 'x', hexDigit (b.toNat / 16), hexDigit (b.toNat % 16)]

/-- The keyword `push`, and so on (R84). -/
def TraceOp.keyword : TraceOp → List Char
  | .push _ => ['p', 'u', 's', 'h']
  | .pop => ['p', 'o', 'p']
  | .takeOverflow => ['t', 'a', 'k', 'e', '_', 'o', 'v', 'e', 'r', 'f', 'l', 'o', 'w']
  | .feed _ => ['f', 'e', 'e', 'd']
  | .forceDesync => ['f', 'o', 'r', 'c', 'e', '_', 'd', 'e', 's', 'y', 'n', 'c']
  | .step => ['s', 't', 'e', 'p']

/-- The text of a line's transaction (R84). -/
def TraceOp.text (op : TraceOp) : List Char :=
  match op with
  | .push b => op.keyword ++ ' ' :: byteText b
  | .feed b => op.keyword ++ ' ' :: byteText b
  | .pop | .takeOverflow | .forceDesync | .step => op.keyword

/-- The text of a line, with its agent where it has one (R84). -/
def TraceLine.text (l : TraceLine) : List Char :=
  match l.agent with
  | some .producer => 'P' :: ':' :: ' ' :: l.op.text
  | some .consumer => 'C' :: ':' :: ' ' :: l.op.text
  | none => l.op.text

/-- The line without its comment (R84). -/
def stripComment : List Char → List Char
  | '-' :: '-' :: _ => []
  | c :: rest => c :: stripComment rest
  | [] => []

/-- Does the character separate words: a space, a tab, a comma, or a brace (codes 123 and 125) of R85's lists? -/
def isBlank (c : Char) : Bool := c == ' ' || c == '\t' || c == ',' || c.toNat == 123 || c.toNat == 125

/-- The words of a line. -/
def lineWords (cs : List Char) : List (List Char) :=
  (cs.foldr
    (fun c acc =>
      if isBlank c then [] :: acc
      else match acc with
        | [] => [[c]]
        | w :: rest => (c :: w) :: rest)
    [[]]).filter (fun w => !w.isEmpty)

/-- The value of a digit of the given base, at most 16. -/
def digitValue (base : Nat) (c : Char) : Option Nat :=
  let n := c.toNat
  let v :=
    if 48 ≤ n ∧ n ≤ 57 then n - 48
    else if 65 ≤ n ∧ n ≤ 70 then n - 55
    else if 97 ≤ n ∧ n ≤ 102 then n - 87
    else 16
  if v < base then some v else none

/-- The number that digits spell; none for no digits. -/
def numeral (base : Nat) (cs : List Char) : Option Nat :=
  if cs.isEmpty then none
  else cs.foldl (fun acc c => acc.bind (fun a => (digitValue base c).map (fun d => a * base + d))) (some 0)

/-- A byte, `0xNN` or decimal (R84); none above 255. DESIGN CHOICE (log 18; safe): R84 writes two hexadecimal digits; a
byte is read from any number of them, at least one, so `0x5` and `0x0005` are `0x05`. -/
def parseByte (cs : List Char) : Option Byte :=
  let n := match cs with
    | '0' :: 'x' :: digits => numeral 16 digits
    | _ => numeral 10 cs
  n.bind (fun v => if v < 256 then some (BitVec.ofNat 8 v) else none)

/-- The transaction that the words of a line name (R84). -/
def parseOp (ws : List (List Char)) : Option TraceOp :=
  match ws with
  | [w] => [TraceOp.pop, .takeOverflow, .forceDesync, .step].find? (fun op => op.keyword == w)
  | [w, b] =>
    (parseByte b).bind (fun v => [TraceOp.push v, .feed v].find? (fun op => op.keyword == w))
  | _ => none

/-- The transactions that the words of a line name: one (R84), or the expansion of `send` or `feedseq` (R85). -/
def parseOps (ws : List (List Char)) : Option (List TraceOp) :=
  match ws with
  | ['s', 'e', 'n', 'd'] :: bs => bs.mapM (fun b => (parseByte b).map TraceOp.push)
  | ['f', 'e', 'e', 'd', 's', 'e', 'q'] :: bs => bs.mapM (fun b => (parseByte b).map TraceOp.feed)
  | _ => (parseOp ws).map (fun op => [op])

/-- The agent mark of a line's words, as a word of its own or joined to the next, and the words after it (R84). -/
def splitAgent (ws : List (List Char)) : Option Agent × List (List Char) :=
  match ws with
  | ['P', ':'] :: rest => (some .producer, rest)
  | ['C', ':'] :: rest => (some .consumer, rest)
  | ('P' :: ':' :: w) :: rest => (some .producer, w :: rest)
  | ('C' :: ':' :: w) :: rest => (some .consumer, w :: rest)
  | _ => (none, ws)

/-- What a line of text says: transactions under one agent mark (none for a blank or comment line), or `drain`. -/
inductive TextLine where
  | ops (agent : Option Agent) (ops : List TraceOp)
  | drain (agent : Option Agent)
deriving DecidableEq, Repr

/-- A line of text without its comment (R84, R85); an error (`none`) for a malformed line. -/
def parseLine (cs : List Char) : Option TextLine :=
  let ws := lineWords cs
  if ws.isEmpty then some (.ops none [])
  else
    let split := splitAgent ws
    if split.2 = [['d', 'r', 'a', 'i', 'n']] then some (.drain split.1)
    else (parseOps split.2).map (TextLine.ops split.1)

/-- The parts of a line of text between semicolons. -/
def splitSemicolons (cs : List Char) : List (List Char) :=
  cs.foldr
    (fun c acc =>
      if c == ';' then [] :: acc
      else match acc with
        | [] => [[c]]
        | part :: rest => (c :: part) :: rest)
    [[]]

/-- The trace lines that a line of text stands for in the state where its first transaction is performed (R85). A
`drain` of the producer has no expansion: its STEPs are refused (R181). -/
def TextLine.expand (t : TextLine) (s : State) : Option (List TraceLine) :=
  match t with
  | .ops a os => some (os.map (fun op => { agent := a, op := op }))
  | .drain (some .producer) => none
  | .drain a => (s.drainExpansion []).map (fun ls => ls.map (fun l => { l with agent := a }))

/-- The trace lines of a text from the state in which its first transaction is performed, each line expanded in the
state that the lines before it leave. -/
def expandText (ts : List TextLine) (s : State) : Option (List TraceLine) :=
  match ts with
  | [] => some []
  | t :: rest => (t.expand s).bind (fun ls => (expandText rest (s.performLines ls)).map (fun more => ls ++ more))

/-- The assembler: the lines of a text to the words issued from state `s` on, none where a line is malformed (R84,
R85). -/
def assemble (s : State) (lines : List (List Char)) : Option (List Issue) :=
  ((lines.flatMap (fun cs => splitSemicolons (stripComment cs))).mapM parseLine).bind
    (fun ts => (expandText ts s).map encodeTrace)

end Sys2Proof.Machine
end

