-- ==== Sys2Proof/Safety.lean ====
section
/-! DEFINITION. What counts as a safe run: it answers a next state and no transaction of it was refused. Every claim
about a run takes "no refusal" as a premise (R204, D23). -/

namespace Sys2Proof.Machine

/-- No transaction has been refused so far (R204). -/
abbrev State.NoRefusal (s : State) : Prop := s.refusalMark = false

/-- `n` steps from `s` end in a next state with no refusal; the mark is sticky, so none was refused on the way. -/
def SafeRun (n : Nat) (s : State) : Prop :=
  ∃ t : State, Host.Core.run Sys2Proof.core n s = .next t ∧ t.NoRefusal

end Sys2Proof.Machine
end

