-- ==== Sys2Proof/Certificates/Slice0/Obligations.lean ====
section
/-! DEFINITION. The statements about the model, for the provers. Each says in its docstring which rules of the spec it
rests on; a clause that rests on a choice of the model names its log entry. -/

open Sys2Proof Sys2Proof.Machine

/-- For every transaction, with its operand at every value its field admits, the decoder reads from its encoded word
exactly that transaction. (R78, R83) -/
def Obligations.DecodeEncodeRoundTrip : Prop :=
  ∀ i : Instr, decode (encode i) = .ok i

/-- Whenever the decoder accepts a word as a transaction, the encoder writes that very word for it. So no two words
spell one transaction. (R78, R83) -/
def Obligations.EncodeDecodeRoundTrip : Prop :=
  ∀ (w : TransactionWord) (i : Instr), decode w = .ok i → encode i = w

/-- A word that is not reserved by R82 matches exactly one row under (w & mask) == match, and decodes; a reserved word
matches no row and is refused as ReservedWord. Every byte operand is accepted by a FEED word. (R83) -/
def Obligations.DecoderMatchesOneRowOrReserves : Prop :=
  (∀ w : TransactionWord, wordReserved w = false →
    (opcodeTable.filter (·.accepts w)).length = 1 ∧ ∃ i, decode w = .ok i) ∧
  (∀ w : TransactionWord, wordReserved w = true →
    (opcodeTable.filter (·.accepts w)).length = 0 ∧ decode w = .error .reservedWord) ∧
  (∀ b : Byte, ∃ i, decode (0x3#4 ++ b) = .ok i ∧ i.argByte = b)

/-- Sample words of every row, and some reserved words, decode as the spec's vectors E1 to E11 say. (R78, R82,
95_test_vectors.md E1 to E11) -/
def Obligations.SampleWordsDecode : Prop :=
  decode 0x090 = .ok (.push 0x90) ∧ decode 0x0FF = .ok (.push 0xFF) ∧ decode 0x100 = .ok .pop ∧
  decode 0x200 = .ok .takeOverflow ∧ decode 0x37F = .ok (.feedData 0x7F) ∧ decode 0x38F = .ok (.feedNoteOff 0xF) ∧
  decode 0x39F = .ok (.feedNoteOn 0xF) ∧ decode 0x3A0 = .ok (.feedPolyPressure 0) ∧
  decode 0x3BF = .ok (.feedControlChange 0xF) ∧ decode 0x3C0 = .ok (.feedProgramChange 0) ∧
  decode 0x3DF = .ok (.feedChannelPressure 0xF) ∧ decode 0x3EF = .ok (.feedPitchBend 0xF) ∧
  decode 0x3F7 = .ok (.feedSystem 7) ∧ decode 0x3F8 = .ok (.feedRealtime 0) ∧ decode 0x400 = .ok .forceDesync ∧
  decode 0x500 = .ok .step ∧ decode 0x101 = .error .reservedWord ∧ decode 0x4FF = .error .reservedWord ∧
  decode 0x600 = .error .reservedWord ∧ decode 0xFFF = .error .reservedWord

/-- The class of a byte is data below 0x80, channel-voice status 0x80 to 0xEF, system status 0xF0 to 0xF7, real-time
from 0xF8; and the FEED word of the byte decodes to the row of that class. (R70) -/
def Obligations.ByteClassByValue : Prop :=
  ∀ b : Byte,
    byteClass b = (if b.toNat < 0x80 then .data else if b.toNat < 0xF0 then .channelVoice
      else if b.toNat < 0xF8 then .system else .realtime) ∧
    decode (0x3#4 ++ b) = .ok (feedInstr b)

/-- When the head of the schedule is a word issued by an agent and decodes to i, step is exec of i in the same state
with that issue taken from the schedule and its agent recorded as the issuer. The schedule and the issuer are the
model's own fields (log 2 and 10). (R188, R77, R78) -/
def Obligations.StepPerformsDecodedTransaction : Prop :=
  ∀ (s : State) (a : Agent) (w : TransactionWord) (rest : List Issue) (i : Instr),
    s.schedule = { agent := a, word := w } :: rest → decode w = .ok i →
    step s = exec i { s with schedule := rest, issuer := a }

/-- When the next issued word is reserved, the step answers a next state in which only the refusal mark and the issuing
agent's response changed (the schedule and the issuer, the model's own fields, apart). That a refusal is a next
state is the model's reading, log 7. (R82, R204) -/
def Obligations.StepRefusesReservedWord : Prop :=
  ∀ (s : State) (w : TransactionWord) (rest : List Issue), wordReserved w = true →
    (s.schedule = { agent := .producer, word := w } :: rest →
      step s = .next { s with
        schedule := rest, issuer := .producer, refusalMark := true,
        producerResponse := some (.refused .reservedWord) }) ∧
    (s.schedule = { agent := .consumer, word := w } :: rest →
      step s = .next { s with
        schedule := rest, issuer := .consumer, refusalMark := true,
        consumerResponse := some (.refused .reservedWord) })

/-- When no issued transaction is pending, the step is the consumer's STEP. This is the model's choice (log 3): the spec
says that the main loop spins and that STEP is always enabled. (R189, R193) -/
def Obligations.EmptyScheduleRunsTheLoop : Prop :=
  ∀ s : State, s.schedule = [] → step s = exec .step { s with issuer := .consumer }

/-- Placing the encoded word of any transaction with withFetchWord makes the next step exec of that transaction, issued
by the agent whose transaction it is, in an otherwise unchanged state. The schedule is the model's own field (log
2). (R77, R78, R84) -/
def Obligations.FetchWordRunsNext : Prop :=
  ∀ (i : Instr) (s : State),
    step (s.withFetchWord 16 (encode i).toNat) = exec i { s with issuer := i.context }

/-- Every transaction in every state, from either agent, answers a next state in which the issuing agent has a response;
every step answers a next state. No exception and no trap exists. That a refused transaction and a reserved word
answer a next state with the refusal as the response is the model's reading (log 7, and log 16 for reserved words).
(R200, R204, R82) -/
def Obligations.EveryTransactionAnswers : Prop :=
  (∀ (i : Instr) (s : State), ∃ (t : State) (r : Response), exec i s = .next t ∧
    (s.issuer = .producer → t.producerResponse = some r ∧ t.consumerResponse = s.consumerResponse) ∧
    (s.issuer = .consumer → t.consumerResponse = some r ∧ t.producerResponse = s.producerResponse)) ∧
  (∀ s : State, ∃ t : State, step s = .next t)

/-- For any parameters, every element R231 gives a value for has it after reset; the buffer is empty, the parser is
IDLE, out is empty and no refusal mark is set. ATOMIC_POP is true and k is at least 1 in State.reset; the value of k
is OPEN (log 4). Slot contents are a free draw and are not stated. (R231, R8, R10) -/
def Obligations.ResetValues : Prop :=
  (∀ p : Params,
    let s := State.resetWith p
    s.transport.head = 0 ∧ s.transport.tail = 0 ∧ s.transport.ovf = false ∧ s.parser.runningStatus = 0x00#8 ∧
    s.parser.currentStatus = 0x00#8 ∧ s.parser.bytesNeeded = 0 ∧ s.parser.bytesHave = false ∧
    s.parser.pendingD1 = 0x00#8 ∧ s.parser.desynced = false ∧ s.sequencer.phase = .poll ∧ s.sequencer.latchT = 0 ∧
    s.sequencer.latchB = 0x00#8 ∧ s.out = [] ∧ s.refusalMark = false ∧ s.transport.isEmpty = true ∧
    s.parser.absState = .idle ∧ s.params = p) ∧
  (∃ k, 1 ≤ k ∧ State.reset = State.resetWith { k := k, atomicPop := true })

/-- State.reset has legal parameters, satisfies WF, holds a legal latch and a canonical slot space, and has an empty
legal output log. (R41, R231) -/
def Obligations.ResetMeetsInvariant : Prop :=
  State.reset.Inv ∧ State.reset.OutLegal

/-- Issued by the producer with (head + 1) mod N different from tail, PUSH answers a next state in which slot head holds
the byte, every other slot is as before, head is (head + 1) mod N, and nothing else changed but the producer's
response. (R100, R22, R23) -/
def Obligations.PushStoresByteAtHead : Prop :=
  ∀ (b : Byte) (s : State), s.issuer = .producer → WF1 s →
    (s.transport.head + 1) % 2 ^ s.params.k ≠ s.transport.tail →
    ∃ m : Memory,
      exec (.push b) s = .next { s with
        transport := { slots := m, head := (s.transport.head + 1) % 2 ^ s.params.k, tail := s.transport.tail,
                       ovf := s.transport.ovf }
        producerResponse := some .nothing } ∧
      m.read s.transport.head = b ∧
      ∀ a, a ≠ s.transport.head → m.read a = s.transport.slots.read a

/-- Issued by the producer with (head + 1) mod N equal to tail, PUSH answers a next state with tail 0, head 1, ovf 1,
slot 0 holding the byte, every other slot as before, and nothing else changed but the producer's response. (R100,
R101) -/
def Obligations.PushOverflowRecovers : Prop :=
  ∀ (b : Byte) (s : State), s.issuer = .producer →
    (s.transport.head + 1) % 2 ^ s.params.k = s.transport.tail →
    ∃ m : Memory,
      exec (.push b) s = .next { s with
        transport := { slots := m, head := 1, tail := 0, ovf := true }
        producerResponse := some .nothing } ∧
      m.read 0 = b ∧
      ∀ a, a ≠ 0 → m.read a = s.transport.slots.read a

/-- After an overflow PUSH the count is 1 and the only content is the new byte; a POP issued next by the consumer, with
no split pop in flight, returns that byte and leaves the buffer empty. (R101, R106) -/
def Obligations.OverflowByteIsPoppedNext : Prop :=
  ∀ (b : Byte) (s : State), s.issuer = .producer → s.ParamsOk → s.sequencer.phase ≠ .commit →
    (s.transport.head + 1) % 2 ^ s.params.k = s.transport.tail →
    ∃ t u : State,
      exec (.push b) s = .next t ∧ s.params.count t.transport = 1 ∧ s.params.contents t.transport = [b] ∧
      exec .pop { t with issuer := .consumer } = .next u ∧ u.consumerResponse = some (.byte b) ∧
      u.transport.head = u.transport.tail

/-- On the consumer's turn with head different from tail, POP returns the byte of slot tail, tail becomes (tail + 1) mod
N, and nothing else changes, in either ATOMIC_POP mode. (R106, R24) -/
def Obligations.PopTakesByteAtTail : Prop :=
  ∀ s : State, s.ConsumerTurn → WF1 s → s.transport.head ≠ s.transport.tail →
    exec .pop s = .next { s with
      transport := { s.transport with tail := (s.transport.tail + 1) % 2 ^ s.params.k }
      consumerResponse := some (.byte (s.transport.slots.read s.transport.tail)) }

/-- On the consumer's turn with head equal to tail, POP answers EMPTY and no element of the block changes (the response,
which the model holds, apart). (R107) -/
def Obligations.PopEmptyChangesNothing : Prop :=
  ∀ s : State, s.ConsumerTurn → s.transport.head = s.transport.tail →
    exec .pop s = .next { s with consumerResponse := some .empty }

/-- On the consumer's turn TAKE_OVERFLOW returns ovf and leaves it 0, changing nothing else, whether or not the buffer
is empty; issued again at once it returns 0 and changes no other element. (R110, R112, R56) -/
def Obligations.TakeOverflowReadsAndClears : Prop :=
  ∀ s : State, s.ConsumerTurn → ∃ t : State,
    t = { s with transport := { s.transport with ovf := false }, consumerResponse := some (.flag s.transport.ovf) } ∧
    exec .takeOverflow s = .next t ∧
    exec .takeOverflow t = .next { t with consumerResponse := some (.flag false) }

/-- With ovf 1, however many bytes the producer pushes, ovf stays 1; the next TAKE_OVERFLOW returns 1 and the one after
it returns 0. (R111, R100) -/
def Obligations.OverflowsCoalesce : Prop :=
  ∀ (s : State) (bs : List Byte), s.ConsumerTurn → s.transport.ovf = true →
    ∃ t u v : State,
      t = { s with transport := bs.foldl (fun r b => s.params.push b r) s.transport } ∧
      (∀ (b : Byte) (r : Transport), exec (.push b) { s with transport := r, issuer := .producer } = .next
        { s with transport := s.params.push b r, issuer := .producer, producerResponse := some .nothing }) ∧
      exec .takeOverflow t = .next u ∧ u.consumerResponse = some (.flag true) ∧
      exec .takeOverflow u = .next v ∧ v.consumerResponse = some (.flag false)

/-- PUSH issued by the consumer, or any other transaction issued by the producer, is refused as WrongContext: only the
refusal mark and the issuing agent's response change. That a refusal is a next state is the model's reading, log 7;
that the context is tested before the phase is its choice, log 8. (R102, R108, R204, R214) -/
def Obligations.WrongContextRefused : Prop :=
  ∀ (i : Instr) (s : State),
    (s.issuer = .consumer → (∃ b, i = .push b) →
      exec i s = .next { s with refusalMark := true, consumerResponse := some (.refused .wrongContext) }) ∧
    (s.issuer = .producer → (∀ b, i ≠ .push b) →
      exec i s = .next { s with refusalMark := true, producerResponse := some (.refused .wrongContext) })

/-- In phase Commit every consumer transaction other than STEP is refused as SplitPopInFlight, changing only the refusal
mark and the response. In phases Poll and Check POP, TAKE_OVERFLOW, FEED and FORCE_DESYNC are performed, not
refused, and leave phase unchanged. That a refusal is a next state with the refusal as the response is the model's
reading, log 7. (R186) -/
def Obligations.SplitPopAllowsOnlyStep : Prop :=
  ∀ (i : Instr) (s : State), s.issuer = .consumer → (∀ b, i ≠ .push b) → i ≠ .step →
    (s.sequencer.phase = .commit →
      exec i s = .next { s with refusalMark := true, consumerResponse := some (.refused .splitPopInFlight) }) ∧
    (s.sequencer.phase ≠ .commit → ∃ t : State, exec i s = .next t ∧ t.sequencer = s.sequencer ∧
      t.refusalMark = s.refusalMark ∧ ∀ r, t.consumerResponse ≠ some (.refused r))

/-- Once set, the refusal mark is set after every step; and a step that sets it gave the issuing agent a refusal and
changed neither the transport, the parser, the sequencer nor out. That a refusal is a next state with the refusal as
the issuing agent's response is the model's reading (log 7, and log 16 for reserved words). (R204, R190, R82) -/
def Obligations.RefusalMarkIsSticky : Prop :=
  ∀ s t : State, step s = .next t →
    (s.refusalMark = true → t.refusalMark = true) ∧
    (s.refusalMark = false → t.refusalMark = true →
      (∃ r, (t.issuer = .producer ∧ t.producerResponse = some (.refused r)) ∨
            (t.issuer = .consumer ∧ t.consumerResponse = some (.refused r))) ∧
      t.transport = s.transport ∧ t.parser = s.parser ∧ t.sequencer = s.sequencer ∧ t.out = s.out ∧
      t.params = s.params)

/-- On the consumer's turn, in every parser state, desynced or mid-message, FEED of 0xF8 to 0xFF appends {byte,0,0,1} to
out, returns it, and changes nothing else. (R140) -/
def Obligations.RealtimeEmitsAndChangesNothing : Prop :=
  ∀ (v : BitVec 3) (s : State), s.ConsumerTurn →
    exec (.feedRealtime v) s = .next { s with
      out := s.out ++ [{ status := 0b11111#5 ++ v, d1 := 0x00#8, d2 := 0x00#8, len := .one }]
      consumerResponse := some (.message { status := 0b11111#5 ++ v, d1 := 0x00#8, d2 := 0x00#8, len := .one }) }

/-- On the consumer's turn, in every parser state, FEED of 0xF0 to 0xF7 clears running_status, current_status,
bytes_needed, bytes_have and desynced, keeps pending_d1, emits nothing, returns NONE and changes nothing else.
(R143) -/
def Obligations.SystemStatusClearsTracking : Prop :=
  ∀ (v : BitVec 3) (s : State), s.ConsumerTurn →
    exec (.feedSystem v) s = .next { s with
      parser := { runningStatus := 0x00#8, currentStatus := 0x00#8, bytesNeeded := 0, bytesHave := false,
                  pendingD1 := s.parser.pendingD1, desynced := false }
      consumerResponse := some .noMessage }

/-- On the consumer's turn, in every parser state and for every channel, each of the seven status rows sets
running_status and current_status to the byte, bytes_needed to 1 for Program Change and Channel Pressure and to 2
for the other five, clears bytes_have and desynced, keeps pending_d1, emits nothing, returns NONE and changes
nothing else. (R144) -/
def Obligations.ChannelVoiceStartsRunningStatus : Prop :=
  ∀ (c : BitVec 4) (s : State), s.ConsumerTurn →
    let after := fun (status : Byte) (n : Fin 3) => { s with
      parser := { runningStatus := status, currentStatus := status, bytesNeeded := n, bytesHave := false,
                  pendingD1 := s.parser.pendingD1, desynced := false }
      consumerResponse := some .noMessage }
    exec (.feedNoteOff c) s = .next (after (0x8#4 ++ c) 2) ∧
    exec (.feedNoteOn c) s = .next (after (0x9#4 ++ c) 2) ∧
    exec (.feedPolyPressure c) s = .next (after (0xA#4 ++ c) 2) ∧
    exec (.feedControlChange c) s = .next (after (0xB#4 ++ c) 2) ∧
    exec (.feedProgramChange c) s = .next (after (0xC#4 ++ c) 1) ∧
    exec (.feedChannelPressure c) s = .next (after (0xD#4 ++ c) 1) ∧
    exec (.feedPitchBend c) s = .next (after (0xE#4 ++ c) 2)

/-- On the consumer's turn with desynced 1, FEED of a data byte returns NONE and changes nothing. Any sequence of data
and real-time bytes fed to a desynced parser leaves it as it was and emits exactly the real-time bytes. (R141, R140) -/
def Obligations.DesyncedDataDiscarded : Prop :=
  (∀ (v : BitVec 7) (s : State), s.ConsumerTurn → s.parser.desynced = true →
    exec (.feedData v) s = .next { s with consumerResponse := some .noMessage }) ∧
  (∀ (bs : List Byte) (p : Parser), p.desynced = true → (∀ b ∈ bs, b.toNat < 0x80 ∨ 0xF8 ≤ b.toNat) →
    p.feedAll bs = (p, (bs.filter (fun b => 0xF8 ≤ b.toNat)).map
      (fun b => { status := b, d1 := 0x00#8, d2 := 0x00#8, len := .one })))

/-- On the consumer's turn with current_status and running_status both 0, FEED of a data byte returns NONE, emits
nothing and changes nothing. (R153) -/
def Obligations.StrayDataAbsorbed : Prop :=
  ∀ (v : BitVec 7) (s : State), s.ConsumerTurn → s.parser.currentStatus = 0x00#8 →
    s.parser.runningStatus = 0x00#8 →
    exec (.feedData v) s = .next { s with consumerResponse := some .noMessage }

/-- On the consumer's turn, not desynced, with bytes_needed 1, FEED of a data byte emits and returns {st,byte,0,2},
where st is current_status, or running_status if that is 0 (not both 0); current_status becomes 0 and nothing else
changes. (R155) -/
def Obligations.DataByteCompletesLengthTwo : Prop :=
  ∀ (v : BitVec 7) (s : State) (st : Byte), s.ConsumerTurn → s.parser.desynced = false →
    s.parser.bytesNeeded = 1 →
    st = (if s.parser.currentStatus = 0x00#8 then s.parser.runningStatus else s.parser.currentStatus) →
    st ≠ 0x00#8 →
    exec (.feedData v) s = .next { s with
      parser := { s.parser with currentStatus := 0x00#8 }
      out := s.out ++ [{ status := st, d1 := 0#1 ++ v, d2 := 0x00#8, len := .two }]
      consumerResponse := some (.message { status := st, d1 := 0#1 ++ v, d2 := 0x00#8, len := .two }) }

/-- On the consumer's turn, not desynced, with bytes_needed 2 and bytes_have 0, FEED of a data byte writes it to
pending_d1, sets bytes_have, makes current_status the governing status (running status adopted if it was 0, not both
0), returns NONE and changes nothing else. (R156) -/
def Obligations.FirstDataByteStashed : Prop :=
  ∀ (v : BitVec 7) (s : State) (st : Byte), s.ConsumerTurn → s.parser.desynced = false →
    s.parser.bytesNeeded = 2 → s.parser.bytesHave = false →
    st = (if s.parser.currentStatus = 0x00#8 then s.parser.runningStatus else s.parser.currentStatus) →
    st ≠ 0x00#8 →
    exec (.feedData v) s = .next { s with
      parser := { s.parser with currentStatus := st, pendingD1 := 0#1 ++ v, bytesHave := true }
      consumerResponse := some .noMessage }

/-- On the consumer's turn, not desynced, with bytes_needed 2 and bytes_have 1, FEED of a data byte emits and returns
{st,pending_d1,byte,3} for the governing status st (not 0); current_status and bytes_have become 0, pending_d1 is
kept and nothing else changes. (R157) -/
def Obligations.SecondDataByteCompletesLengthThree : Prop :=
  ∀ (v : BitVec 7) (s : State) (st : Byte), s.ConsumerTurn → s.parser.desynced = false →
    s.parser.bytesNeeded = 2 → s.parser.bytesHave = true →
    st = (if s.parser.currentStatus = 0x00#8 then s.parser.runningStatus else s.parser.currentStatus) →
    st ≠ 0x00#8 →
    exec (.feedData v) s = .next { s with
      parser := { s.parser with currentStatus := 0x00#8, bytesHave := false }
      out := s.out ++ [{ status := st, d1 := s.parser.pendingD1, d2 := 0#1 ++ v, len := .three }]
      consumerResponse :=
        some (.message { status := st, d1 := s.parser.pendingD1, d2 := 0#1 ++ v, len := .three }) }

/-- On the consumer's turn, not desynced, with bytes_needed 0 and a governing status st not 0, FEED of a data byte keeps
the adoption of st, returns NONE and changes nothing else; and no parser state that satisfies WF has a status and
bytes_needed 0. (R158, R131, R41) -/
def Obligations.DataByteWithNoNeedIgnored : Prop :=
  (∀ (v : BitVec 7) (s : State) (st : Byte), s.ConsumerTurn → s.parser.desynced = false →
    s.parser.bytesNeeded = 0 →
    st = (if s.parser.currentStatus = 0x00#8 then s.parser.runningStatus else s.parser.currentStatus) →
    st ≠ 0x00#8 →
    exec (.feedData v) s = .next { s with
      parser := { s.parser with currentStatus := st }
      consumerResponse := some .noMessage }) ∧
  (∀ p : Parser, p.WF → p.currentStatus ≠ 0x00#8 ∨ p.runningStatus ≠ 0x00#8 → p.bytesNeeded ≠ 0)

/-- From every parser state, desynced or mid-message, a status byte of kind 8, 9, A, B or E and two data bytes emit
exactly {status,d1,d2,3}; a status byte of kind C or D and one data byte emit exactly {status,d1,0,2}. Running
status is then that status. (R72, R75, R80, R145, R146, R147, R148, R149, R150, R151) -/
def Obligations.ChannelVoiceMessagesComplete : Prop :=
  ∀ (p : Parser) (k c : BitVec 4) (v w : BitVec 7),
    (k ∈ [0x8#4, 0x9#4, 0xA#4, 0xB#4, 0xE#4] →
      (p.feedAll [k ++ c, 0#1 ++ v, 0#1 ++ w]).2 =
        [{ status := k ++ c, d1 := 0#1 ++ v, d2 := 0#1 ++ w, len := .three }] ∧
      (p.feedAll [k ++ c, 0#1 ++ v, 0#1 ++ w]).1.runningStatus = k ++ c) ∧
    (k ∈ [0xC#4, 0xD#4] →
      (p.feedAll [k ++ c, 0#1 ++ v]).2 =
        [{ status := k ++ c, d1 := 0#1 ++ v, d2 := 0x00#8, len := .two }] ∧
      (p.feedAll [k ++ c, 0#1 ++ v]).1.runningStatus = k ++ c)

/-- From every parser state, a two-data-byte status followed by any number of data byte pairs emits the same messages
and leaves the same parser as the stream that repeats the status before each pair; the same for a one-data-byte
status and single data bytes. (R81, R154) -/
def Obligations.RunningStatusExpands : Prop :=
  ∀ (p : Parser) (k c : BitVec 4),
    (k ∈ [0x8#4, 0x9#4, 0xA#4, 0xB#4, 0xE#4] → ∀ ds : List (BitVec 7 × BitVec 7), ds ≠ [] →
      p.feedAll ((k ++ c) :: ds.flatMap (fun d => [0#1 ++ d.1, 0#1 ++ d.2])) =
      p.feedAll (ds.flatMap (fun d => [k ++ c, 0#1 ++ d.1, 0#1 ++ d.2]))) ∧
    (k ∈ [0xC#4, 0xD#4] → ∀ ds : List (BitVec 7), ds ≠ [] →
      p.feedAll ((k ++ c) :: ds.map (fun d => 0#1 ++ d)) =
      p.feedAll (ds.flatMap (fun d => [k ++ c, 0#1 ++ d])))

/-- For all byte sequences u and v and every real-time byte r, feeding u ++ [r] ++ v emits the messages of u, then
{r,0,0,1}, then the messages of v from the state u left, and ends in the state that u ++ v ends in. (R165) -/
def Obligations.RealtimeTransparent : Prop :=
  ∀ (p : Parser) (u v : List Byte) (r : Byte), 0xF8 ≤ r.toNat →
    (p.feedAll (u ++ [r] ++ v)).1 = (p.feedAll (u ++ v)).1 ∧
    (p.feedAll (u ++ v)).2 = (p.feedAll u).2 ++ ((p.feedAll u).1.feedAll v).2 ∧
    (p.feedAll (u ++ [r] ++ v)).2 =
      (p.feedAll u).2 ++ [{ status := r, d1 := 0x00#8, d2 := 0x00#8, len := .one }] ++
        ((p.feedAll u).1.feedAll v).2

/-- From every parser state, 0xF0, any body of data and real-time bytes, then 0xF7 emit exactly the real-time bytes of
the body, and a data byte after it is stray. (R163) -/
def Obligations.SystemExclusiveBodyDiscarded : Prop :=
  ∀ (p : Parser) (body : List Byte) (v : BitVec 7), (∀ b ∈ body, b.toNat < 0x80 ∨ 0xF8 ≤ b.toNat) →
    (p.feedAll (0xF0#8 :: body ++ [0xF7#8, 0#1 ++ v])).2 =
      (body.filter (fun b => 0xF8 ≤ b.toNat)).map
        (fun b => { status := b, d1 := 0x00#8, d2 := 0x00#8, len := .one })

/-- On the consumer's turn FEED of any byte completes; it changes nothing but the parser, out and the response; it
either returns NONE and appends nothing, or returns a message and appends exactly that message; a real-time byte
always emits. (R130, R132, R79) -/
def Obligations.FeedEmitsWhatItReturns : Prop :=
  ∀ (b : Byte) (s : State), s.ConsumerTurn → ∃ (t : State) (o : Option MidiMsg),
    exec (feedInstr b) s = .next t ∧
    t = { s with parser := t.parser, out := s.out ++ o.toList, consumerResponse := t.consumerResponse } ∧
    (o = none → t.consumerResponse = some .noMessage) ∧
    (∀ m, o = some m → t.consumerResponse = some (.message m)) ∧
    (0xF8 ≤ b.toNat → o ≠ none)

/-- On the consumer's turn FORCE_DESYNC clears running_status, current_status, bytes_needed, bytes_have and pending_d1,
sets desynced, returns nothing and changes nothing else; a second one changes nothing. (R160) -/
def Obligations.ForceDesyncResetsParser : Prop :=
  ∀ s : State, s.ConsumerTurn → ∃ t : State,
    t = { s with
      parser := { runningStatus := 0x00#8, currentStatus := 0x00#8, bytesNeeded := 0, bytesHave := false,
                  pendingD1 := 0x00#8, desynced := true }
      consumerResponse := some .nothing } ∧
    exec .forceDesync s = .next t ∧ exec .forceDesync t = .next t

/-- What is emitted after a FORCE_DESYNC does not depend on the parser state before it, and every message emitted for
the bytes bs fed after it has its status in bs, its d1 in bs if its length is 2 or 3, and its d2 in bs if its length
is 3. (R161, R141, R144) -/
def Obligations.ForceDesyncForgetsEarlierBytes : Prop :=
  ∀ (p : Parser) (bs : List Byte),
    (∀ q : Parser, p.forceDesync.feedAll bs = q.forceDesync.feedAll bs) ∧
    ∀ m ∈ (p.forceDesync.feedAll bs).2,
      m.status ∈ bs ∧ (m.len ≠ .one → m.d1 ∈ bs) ∧ (m.len = .three → m.d2 ∈ bs)

/-- Issued by the consumer in phase Poll with head equal to tail, STEP sets phase to Check, returns nothing and changes
nothing else, in either ATOMIC_POP mode. (R183) -/
def Obligations.StepObservesEmptyBuffer : Prop :=
  ∀ s : State, s.issuer = .consumer → s.sequencer.phase = .poll → s.transport.head = s.transport.tail →
    exec .step s = .next { s with
      sequencer := { s.sequencer with phase := .check }
      consumerResponse := some .nothing }

/-- Issued by the consumer in phase Poll with a byte to pop and ATOMIC_POP, STEP answers the state that POP, then FEED
of the byte POP returned, answer, with nothing returned; the byte is that of slot tail and phase stays Poll. (R182,
R106, R131) -/
def Obligations.StepPopsAndFeeds : Prop :=
  ∀ s : State, s.issuer = .consumer → s.sequencer.phase = .poll → s.transport.head ≠ s.transport.tail →
    s.params.atomicPop = true → WF1 s →
    ∃ t u : State,
      exec .pop s = .next t ∧
      t.consumerResponse = some (.byte (s.transport.slots.read s.transport.tail)) ∧
      exec (feedInstr (s.transport.slots.read s.transport.tail)) t = .next u ∧
      exec .step s = .next { u with consumerResponse := some .nothing } ∧
      u.sequencer.phase = .poll

/-- Issued by the consumer in phase Poll with a byte to pop and ATOMIC_POP false, STEP writes tail to latch_t, the byte
of slot tail to latch_b, sets phase to Commit, returns nothing and changes nothing else. (R184) -/
def Obligations.StepLatchesSplitPop : Prop :=
  ∀ s : State, s.issuer = .consumer → s.sequencer.phase = .poll → s.transport.head ≠ s.transport.tail →
    s.params.atomicPop = false → WF1 s →
    exec .step s = .next { s with
      sequencer := { phase := .commit, latchT := s.transport.tail,
                     latchB := s.transport.slots.read s.transport.tail }
      consumerResponse := some .nothing }

/-- Issued by the consumer in phase Commit, STEP writes to tail either (latch_t + 1) mod N or (tail + 1) mod N, sets
phase to Poll and feeds latch_b as the FEED transaction does, and returns nothing. Which value is a free draw: the
statement holds for either. The draw counter is the model's own (log 11). (R184, R131) -/
def Obligations.StepCommitsSplitPop : Prop :=
  ∀ s : State, s.issuer = .consumer → s.sequencer.phase = .commit →
    ∃ (x : Nat) (u : State),
      (x = (s.sequencer.latchT + 1) % 2 ^ s.params.k ∨ x = (s.transport.tail + 1) % 2 ^ s.params.k) ∧
      exec (feedInstr s.sequencer.latchB) { s with
        transport := { s.transport with tail := x }, sequencer := { s.sequencer with phase := .poll } } = .next u ∧
      exec .step s = .next { u with draws := s.draws + 1, consumerResponse := some .nothing }

/-- In phase Poll with a byte to pop and ATOMIC_POP false, two STEPs of the consumer in a row answer the state that one
STEP answers when ATOMIC_POP is true, the latches and the model's draw counter apart. (R184, R182) -/
def Obligations.UninterruptedSplitPopIsAtomicPop : Prop :=
  ∀ s : State, s.issuer = .consumer → s.sequencer.phase = .poll → s.transport.head ≠ s.transport.tail →
    s.params.atomicPop = false → WF1 s →
    ∃ t u v : State,
      exec .step s = .next t ∧ exec .step t = .next u ∧
      exec .step { s with params := { s.params with atomicPop := true } } = .next v ∧
      u = { v with
        params := s.params
        sequencer := { phase := .poll, latchT := s.transport.tail,
                       latchB := s.transport.slots.read s.transport.tail }
        draws := s.draws + 1 }

/-- Issued by the consumer in phase Check, whatever the buffer holds, STEP clears ovf and sets phase to Poll; if ovf was
1 the parser is reset and desynced, if it was 0 the parser is unchanged; nothing else changes and nothing is
returned. (R185) -/
def Obligations.StepTakesOverflowAndDesyncs : Prop :=
  ∀ s : State, s.issuer = .consumer → s.sequencer.phase = .check →
    exec .step s = .next { s with
      transport := { s.transport with ovf := false }
      parser := if s.transport.ovf = true then
          { runningStatus := 0x00#8, currentStatus := 0x00#8, bytesNeeded := 0, bytesHave := false,
            pendingD1 := 0x00#8, desynced := true }
        else s.parser
      sequencer := { s.sequencer with phase := .poll }
      consumerResponse := some .nothing }

/-- A STEP that finds ovf 1 either leaves it 1 or leaves the parser desynced; no other outcome clears the flag. (R244,
R185) -/
def Obligations.StepNeverLosesAnOverflow : Prop :=
  ∀ s t : State, exec .step s = .next t → s.transport.ovf = true →
    t.transport.ovf = true ∨
      (s.sequencer.phase = .check ∧ t.parser.desynced = true ∧ t.parser.runningStatus = 0x00#8 ∧
        t.parser.currentStatus = 0x00#8)

/-- In a settled state with nothing scheduled, one step moves phase to Check and changes no other element, and the next
step returns to Poll with every element of the block as it was. With nothing scheduled the step is the consumer's
STEP, the model's choice (log 3). (R193, R181) -/
def Obligations.SettledLoopOnlyAlternates : Prop :=
  ∀ s : State, s.schedule = [] → s.settled = true → ∃ t : State,
    t = { s with
      sequencer := { s.sequencer with phase := .check }
      issuer := .consumer, consumerResponse := some .nothing } ∧
    step s = .next t ∧
    step t = .next { s with issuer := .consumer, consumerResponse := some .nothing }

/-- With legal indices and nothing scheduled: from Poll with count c, exactly c + 2 steps when ATOMIC_POP is true, and
2c + 2 when it is false, end in a settled state; from Check one step more does; from Commit with ATOMIC_POP false,
latch_t equal to tail and a byte unread, 2c + 1 steps do, one of them the second half; from Commit with any latch,
at most 2(N - 1) + 3 steps do. From Poll, drain without a push is exactly those c + 2 or 2c + 2 STEPs. With k at
least 1, from any phase and with any bytes pushed between its STEPs, drain has an expansion, which performed ends in
a settled state. With nothing scheduled each step is the consumer's STEP, the model's choice (log 3); where drain
ends outside Poll is its reading (log 20). (R85, R193, R8, C9) -/
def Obligations.DrainSettles : Prop :=
  ∀ s : State, WF1 s →
    let c := s.params.count s.transport
    (s.schedule = [] → s.sequencer.phase = .poll → ∃ t : State,
      Host.Core.run Sys2Proof.core (if s.params.atomicPop then c + 2 else 2 * c + 2) s = .next t ∧
      t.settled = true) ∧
    (s.schedule = [] → s.sequencer.phase = .check → ∃ t : State,
      Host.Core.run Sys2Proof.core (if s.params.atomicPop then c + 3 else 2 * c + 3) s = .next t ∧
      t.settled = true) ∧
    (s.schedule = [] → s.sequencer.phase = .commit → s.params.atomicPop = false →
      s.sequencer.latchT = s.transport.tail → s.transport.head ≠ s.transport.tail → ∃ t : State,
      Host.Core.run Sys2Proof.core (2 * c + 1) s = .next t ∧ t.settled = true) ∧
    (s.schedule = [] → s.sequencer.phase = .commit → ∃ (n : Nat) (t : State),
      n ≤ 2 * (2 ^ s.params.k - 1) + 3 ∧ Host.Core.run Sys2Proof.core n s = .next t ∧ t.settled = true) ∧
    (s.sequencer.phase = .poll → s.drainExpansion [] =
      some (List.replicate (if s.params.atomicPop then c + 2 else 2 * c + 2) (plainLine .step))) ∧
    (s.ParamsOk → ∀ gaps : List (List Byte), ∃ ls : List TraceLine,
      s.drainExpansion gaps = some ls ∧ (s.performLines ls).settled = true)

/-- For every block with k at least 1 (R8), the reset state satisfies WF1 to WF8, and every transaction, issued by
either agent, takes a state that satisfies WF to one that does. (R41) -/
def Obligations.TransactionsKeepWellFormedness : Prop :=
  (∀ p : Params, (State.resetWith p).WF) ∧
  (∀ (i : Instr) (s t : State), s.ParamsOk → s.WF → exec i s = .next t → t.WF)

/-- From every state that meets the model's invariant, whatever is scheduled, a step that answers a next state answers
one that meets it. (R41, R21, R50, R53) -/
def Obligations.StepKeepsInvariant : Prop :=
  ∀ s t : State, s.Inv → step s = .next t → t.Inv

/-- From every state whose parser satisfies WF and whose output log is legal, a step leaves the log legal: a length-1
message has a real-time status and zero data, a length-2 message a status of kind C or D and a 7-bit d1, a length-3
message a status of kind 8, 9, A, B or E and two 7-bit data bytes. (R164, R75) -/
def Obligations.EmittedMessagesLegal : Prop :=
  ∀ s t : State, s.parser.WF → s.OutLegal → step s = .next t → t.OutLegal

/-- For every parser that satisfies WF and every byte, the abstract state after FEED and the length of the message
emitted are the entry of the table of R43 for the abstract state before and the byte's column; FORCE_DESYNC moves
every parser to DESYNC. (R43) -/
def Obligations.ParserFollowsTransitionTable : Prop :=
  (∀ (p : Parser) (b : Byte), p.WF →
    absNext p.absState (absInput b) = ((p.feed b).1.absState, (p.feed b).2.map MidiMsg.len)) ∧
  (∀ p : Parser, p.forceDesync.absState = .desync)

/-- For all parameters, every schedule and every number of steps, the run from reset and the run from reset with
desynced set instead end with the same output log and the same responses. (R234, R42) -/
def Obligations.DesyncAtResetIsInvisible : Prop :=
  ∀ (p : Params) (issues : List Issue) (n : Nat), ∃ t u : State,
    Host.Core.run Sys2Proof.core n { State.resetWith p with schedule := issues } = .next t ∧
    Host.Core.run Sys2Proof.core n { State.resetWith p with
      schedule := issues, parser := { (State.resetWith p).parser with desynced := true } } = .next u ∧
    t.out = u.out ∧ t.producerResponse = u.producerResponse ∧ t.consumerResponse = u.consumerResponse ∧
    t.transport = u.transport

/-- With legal parameters and indices: PUSH appends its byte to the unread bytes, or, when the buffer is full, leaves it
as the only one; POP returns the oldest unread byte and removes it, or returns EMPTY exactly when there is none.
(R26, R100, R104, R106) -/
def Obligations.RingRefinesQueue : Prop :=
  ∀ s t : State, s.ParamsOk → WF1 s →
    (∀ b : Byte, s.issuer = .producer → exec (.push b) s = .next t →
      s.params.contents t.transport =
        if (s.transport.head + 1) % 2 ^ s.params.k = s.transport.tail then [b]
        else s.params.contents s.transport ++ [b]) ∧
    (s.ConsumerTurn → exec .pop s = .next t →
      (s.params.contents s.transport = [] ∧ t.consumerResponse = some .empty ∧ t.transport = s.transport) ∨
      (∃ b, s.params.contents s.transport = b :: s.params.contents t.transport ∧
        t.consumerResponse = some (.byte b)))

/-- From an empty buffer with legal parameters and indices, any N - 1 bytes pushed are the unread bytes in order with
ovf unchanged; a further byte pushed sets ovf and is then the only unread byte; one more leaves exactly those two,
in order, if N is at least 4. (R103, R100) -/
def Obligations.CapacityIsNMinusOne : Prop :=
  ∀ (p : Params) (t : Transport) (bs : List Byte) (b c : Byte), 1 ≤ p.k → t.head < 2 ^ p.k → t.tail = t.head →
    bs.length = 2 ^ p.k - 1 →
    let u := bs.foldl (fun r x => p.push x r) t
    p.contents u = bs ∧ u.ovf = t.ovf ∧
    p.contents (p.push b u) = [b] ∧ (p.push b u).ovf = true ∧
    (2 ≤ p.k → p.contents (p.push c (p.push b u)) = [b, c])

/-- Whatever the producer issues, the parser, the sequencer, out and the consumer's response are unchanged, and with
another parser state in place the outcome is the same but for that parser state. (R33, R217) -/
def Obligations.ProducerNeverTouchesConsumerState : Prop :=
  ∀ (i : Instr) (s t : State), s.issuer = .producer → exec i s = .next t →
    t.parser = s.parser ∧ t.sequencer = s.sequencer ∧ t.out = s.out ∧ t.consumerResponse = s.consumerResponse ∧
    t.draws = s.draws ∧
    ∀ p : Parser, exec i { s with parser := p } = .next { t with parser := p }

/-- Whatever the consumer issues, head and every slot are unchanged, and ovf is never set. (R22, R23) -/
def Obligations.ConsumerNeverWritesHeadOrSlots : Prop :=
  ∀ (i : Instr) (s t : State), s.issuer = .consumer → exec i s = .next t →
    t.transport.head = s.transport.head ∧ t.transport.slots = s.transport.slots ∧
    (t.transport.ovf = true → s.transport.ovf = true)

/-- ovf is set only by an overflow PUSH and cleared only by TAKE_OVERFLOW or STEP in Check. A FEED here is the FEED
transaction of a byte, or a STEP that feeds it: the byte popped in Poll with ATOMIC_POP, the latched byte in Commit.
desynced is set only by FORCE_DESYNC, or by STEP in Check with ovf 1, and cleared only by a FEED of a byte 0x80 to
0xF7. bytes_have is set only by a FEED of a data byte with bytes_needed 2, and cleared only by FORCE_DESYNC, by STEP
in Check with ovf 1, or by a FEED of a byte up to 0xF7, with bytes_needed 2 if it is a data byte. All three are 0 at
reset. (R37, R182, R184, R185) -/
def Obligations.FlagsWrittenOnlyAsTabled : Prop :=
  (∀ p : Params, (State.resetWith p).transport.ovf = false ∧ (State.resetWith p).parser.desynced = false ∧
    (State.resetWith p).parser.bytesHave = false) ∧
  ∀ (i : Instr) (s t : State), exec i s = .next t →
    let feeds := fun b : Byte => i = feedInstr b ∨
      (i = .step ∧ s.sequencer.phase = .poll ∧ s.params.atomicPop = true ∧ s.transport.head ≠ s.transport.tail ∧
        b = s.params.popByte s.transport) ∨
      (i = .step ∧ s.sequencer.phase = .commit ∧ b = s.sequencer.latchB)
    let desyncs := i = .forceDesync ∨ (i = .step ∧ s.sequencer.phase = .check ∧ s.transport.ovf = true)
    (s.transport.ovf = false → t.transport.ovf = true →
      (∃ b, i = .push b) ∧ (s.transport.head + 1) % 2 ^ s.params.k = s.transport.tail) ∧
    (s.transport.ovf = true → t.transport.ovf = false →
      i = .takeOverflow ∨ (i = .step ∧ s.sequencer.phase = .check)) ∧
    (s.parser.desynced = false → t.parser.desynced = true → desyncs) ∧
    (s.parser.desynced = true → t.parser.desynced = false →
      ∃ b : Byte, feeds b ∧ 0x80 ≤ b.toNat ∧ b.toNat ≤ 0xF7) ∧
    (s.parser.bytesHave = false → t.parser.bytesHave = true →
      ∃ b : Byte, feeds b ∧ b.toNat < 0x80 ∧ s.parser.bytesNeeded = 2) ∧
    (s.parser.bytesHave = true → t.parser.bytesHave = false →
      desyncs ∨ ∃ b : Byte, feeds b ∧ b.toNat ≤ 0xF7 ∧ (b.toNat < 0x80 → s.parser.bytesNeeded = 2))

/-- The parameters are fixed for the life of the block: every step leaves them unchanged, and every transaction leaves
the schedule and the issuer (the model's own fields, log 2 and 10) to the step. (R38, R8, R10) -/
def Obligations.ParametersNeverChange : Prop :=
  (∀ s t : State, step s = .next t → t.params = s.params ∧ t.schedule = s.schedule.tail) ∧
  (∀ (i : Instr) (s t : State), exec i s = .next t →
    t.params = s.params ∧ t.schedule = s.schedule ∧ t.issuer = s.issuer)

/-- A step leaves out as it was or appends one message; and with another output log in place the step answers the same
state but for that log, extended by the same message. (R36, R132) -/
def Obligations.OutputLogOnlyGrows : Prop :=
  ∀ s t : State, step s = .next t → ∃ l : List MidiMsg, l.length ≤ 1 ∧ t.out = s.out ++ l ∧
    ∀ o : List MidiMsg, step { s with out := o } = .next { t with out := o ++ l }

/-- A transaction that meets E_OVERFLOW sets ovf and resets the indices; one that meets E_DESYNC leaves the parser
discarded and desynced; one that meets E_IGNORED_SYSTEM clears running status and the message in progress and emits
nothing; one that meets E_STRAY leaves the parser and out unchanged. The labels are functions of the transaction and
the state, log 14. (R201, R202) -/
def Obligations.ErrorConditionsHaveTheirEffects : Prop :=
  ∀ (i : Instr) (s t : State), exec i s = .next t →
    (errorCondition i s = some .overflow →
      t.transport.ovf = true ∧ t.transport.head = 1 ∧ t.transport.tail = 0 ∧ t.parser = s.parser) ∧
    (errorCondition i s = some .desync →
      t.parser = { runningStatus := 0x00#8, currentStatus := 0x00#8, bytesNeeded := 0, bytesHave := false,
                   pendingD1 := 0x00#8, desynced := true } ∧ t.out = s.out) ∧
    (errorCondition i s = some .ignoredSystem →
      t.parser.runningStatus = 0x00#8 ∧ t.parser.currentStatus = 0x00#8 ∧ t.parser.bytesHave = false ∧
        t.out = s.out) ∧
    (errorCondition i s = some .stray → t.parser = s.parser ∧ t.out = s.out)
end

