-- ==== Sys2Proof/Laws/Memory.lean ====
section
/-! SUPPORT. The laws of the slot space: a read after a write, and that a write keeps the canonical form. -/

namespace Sys2Proof.Machine

@[simp] theorem Memory.read_nil (a : Nat) : Memory.read [] a = unlistedByte := rfl

theorem Memory.read_insertCell_same (m : Memory) (a : Nat) (b : Byte) (h : ∀ c ∈ m, c.1 ≠ a) :
    (m.insertCell a b).read a = b := by
  induction m with
  | nil => simp [Memory.insertCell, Memory.read]
  | cons c rest ih =>
    have hc : c.1 ≠ a := h c (by simp)
    simp only [Memory.insertCell]
    split
    · simp [Memory.read]
    · simp only [Memory.read, hc, if_false]
      exact ih (fun d hd => h d (by simp [hd]))

theorem Memory.read_insertCell_other (m : Memory) (a a' : Nat) (b : Byte) (h : a' ≠ a) :
    (m.insertCell a b).read a' = m.read a' := by
  induction m with
  | nil => simp [Memory.insertCell, Memory.read, Ne.symm h]
  | cons c rest ih =>
    simp only [Memory.insertCell]
    split
    · simp [Memory.read, Ne.symm h]
    · simp only [Memory.read, ih]

theorem Memory.read_filter_same (m : Memory) (a : Nat) :
    Memory.read (m.filter (fun c => decide (c.1 ≠ a))) a = unlistedByte := by
  induction m with
  | nil => rfl
  | cons c rest ih =>
    by_cases hc : c.1 = a <;> simp_all [Memory.read]

theorem Memory.read_filter_other (m : Memory) (a a' : Nat) (h : a' ≠ a) :
    Memory.read (m.filter (fun c => decide (c.1 ≠ a))) a' = m.read a' := by
  induction m with
  | nil => rfl
  | cons c rest ih =>
    by_cases hc : c.1 = a
    · have hne : ¬ a = a' := fun e => h e.symm
      simp_all [Memory.read]
    · simp_all [Memory.read]

/-- A read of the slot written gives the byte written. -/
@[simp] theorem Memory.read_write_same (m : Memory) (a : Nat) (b : Byte) : (m.write a b).read a = b := by
  unfold Memory.write
  simp only
  split
  · next h => rw [h]; exact Memory.read_filter_same m a
  · exact Memory.read_insertCell_same _ a b (by simp)

/-- A read of any other slot gives what it gave before the write. -/
theorem Memory.read_write_other (m : Memory) (a a' : Nat) (b : Byte) (h : a' ≠ a) :
    (m.write a b).read a' = m.read a' := by
  unfold Memory.write
  simp only
  split
  · exact Memory.read_filter_other m a a' h
  · rw [Memory.read_insertCell_other _ a a' b h]; exact Memory.read_filter_other m a a' h

theorem Memory.mem_insertCell (m : Memory) (a : Nat) (b : Byte) (c : Host.Cell) :
    c ∈ m.insertCell a b ↔ c = (a, b) ∨ c ∈ m := by
  induction m with
  | nil => simp [Memory.insertCell]
  | cons d rest ih =>
    simp only [Memory.insertCell]
    split
    · simp
    · simp only [List.mem_cons, ih]; tauto

theorem Memory.insertCell_rising (m : Memory) (a : Nat) (b : Byte) (h : ∀ c ∈ m, c.1 ≠ a)
    (hr : m.Pairwise (fun c d => c.1 < d.1)) : (m.insertCell a b).Pairwise (fun c d => c.1 < d.1) := by
  induction m with
  | nil => simp [Memory.insertCell]
  | cons c rest ih =>
    have hc : c.1 ≠ a := h c (by simp)
    obtain ⟨hhead, htail⟩ := List.pairwise_cons.mp hr
    simp only [Memory.insertCell]
    split
    · next hlt =>
      refine List.pairwise_cons.mpr ⟨?_, hr⟩
      intro d hd
      rcases List.mem_cons.mp hd with rfl | hd'
      · exact hlt
      · exact lt_trans hlt (hhead d hd')
    · next hnlt =>
      refine List.pairwise_cons.mpr ⟨?_, ih (fun d hd => h d (by simp [hd])) htail⟩
      intro d hd
      rcases (Memory.mem_insertCell rest a b d).mp hd with rfl | hd'
      · simp only; omega
      · exact hhead d hd'

/-- A write keeps the canonical form. -/
theorem Memory.write_wf (m : Memory) (a : Nat) (b : Byte) (h : Memory.wf m) : Memory.wf (m.write a b) := by
  obtain ⟨hr, hb⟩ := h
  have hr' := hr.filter (fun c => decide (c.1 ≠ a))
  unfold Memory.write
  simp only
  split
  · exact ⟨hr', fun c hc => hb c (List.mem_of_mem_filter hc)⟩
  · next hne =>
    refine ⟨Memory.insertCell_rising _ a b (by simp) hr', fun c hc => ?_⟩
    rcases (Memory.mem_insertCell _ a b c).mp hc with rfl | hc'
    · exact hne
    · exact hb c (List.mem_of_mem_filter hc')

/-- A write to one of `0 .. n-1` lists no slot outside them. -/
theorem Memory.write_within (n : Nat) (m : Memory) (a : Nat) (b : Byte) (ha : a < n) (h : Memory.within n m) :
    Memory.within n (m.write a b) := by
  unfold Memory.write
  intro c hc
  simp only at hc
  split at hc
  · exact h c (List.mem_of_mem_filter hc)
  · rcases (Memory.mem_insertCell _ a b c).mp hc with rfl | hc'
    · exact ha
    · exact h c (List.mem_of_mem_filter hc')

/-- The slot space of the reset state has the canonical form. -/
theorem Memory.reset_wf : Memory.wf State.reset.transport.slots :=
  ⟨List.Pairwise.nil, fun _ hc => nomatch hc⟩

end Sys2Proof.Machine
end

