-- ==== Sys2Proof/Laws/State.lean ====
section
/-! SUPPORT. One lemma per field per update: what each named update leaves and what it writes. All are true by
unfolding, so no later proof unfolds a record update. -/

namespace Sys2Proof.Machine


/-! ## Updates of the transport -/

@[simp] theorem Params.writeSlot_slots (p : Params) (t : Transport) (i : Nat) (b : Byte) :
    (p.writeSlot t i b).slots = t.slots.write (i % p.ringSize) b := rfl
@[simp] theorem Params.writeSlot_head (p : Params) (t : Transport) (i : Nat) (b : Byte) :
    (p.writeSlot t i b).head = t.head := rfl
@[simp] theorem Params.writeSlot_tail (p : Params) (t : Transport) (i : Nat) (b : Byte) :
    (p.writeSlot t i b).tail = t.tail := rfl
@[simp] theorem Params.writeSlot_ovf (p : Params) (t : Transport) (i : Nat) (b : Byte) :
    (p.writeSlot t i b).ovf = t.ovf := rfl
@[simp] theorem Transport.raiseOverflow_slots (t : Transport) : (t.raiseOverflow).slots = t.slots := rfl
@[simp] theorem Transport.raiseOverflow_head (t : Transport) : (t.raiseOverflow).head = t.head := rfl
@[simp] theorem Transport.raiseOverflow_tail (t : Transport) : (t.raiseOverflow).tail = t.tail := rfl
@[simp] theorem Transport.raiseOverflow_ovf (t : Transport) : (t.raiseOverflow).ovf = true := rfl
@[simp] theorem Transport.clearOverflow_slots (t : Transport) : (t.clearOverflow).slots = t.slots := rfl
@[simp] theorem Transport.clearOverflow_head (t : Transport) : (t.clearOverflow).head = t.head := rfl
@[simp] theorem Transport.clearOverflow_tail (t : Transport) : (t.clearOverflow).tail = t.tail := rfl
@[simp] theorem Transport.clearOverflow_ovf (t : Transport) : (t.clearOverflow).ovf = false := rfl
@[simp] theorem Params.overflowPush_slots (p : Params) (b : Byte) (t : Transport) :
    (p.overflowPush b t).slots = t.slots.write (0 % p.ringSize) b := rfl
@[simp] theorem Params.overflowPush_head (p : Params) (b : Byte) (t : Transport) :
    (p.overflowPush b t).head = 1 := rfl
@[simp] theorem Params.overflowPush_tail (p : Params) (b : Byte) (t : Transport) :
    (p.overflowPush b t).tail = 0 := rfl
@[simp] theorem Params.overflowPush_ovf (p : Params) (b : Byte) (t : Transport) :
    (p.overflowPush b t).ovf = true := rfl
@[simp] theorem Params.normalPush_slots (p : Params) (b : Byte) (t : Transport) :
    (p.normalPush b t).slots = t.slots.write (t.head % p.ringSize) b := rfl
@[simp] theorem Params.normalPush_head (p : Params) (b : Byte) (t : Transport) :
    (p.normalPush b t).head = p.nextIndex t.head := rfl
@[simp] theorem Params.normalPush_tail (p : Params) (b : Byte) (t : Transport) :
    (p.normalPush b t).tail = t.tail := rfl
@[simp] theorem Params.normalPush_ovf (p : Params) (b : Byte) (t : Transport) : (p.normalPush b t).ovf = t.ovf := rfl
@[simp] theorem Params.popAdvance_slots (p : Params) (t : Transport) : (p.popAdvance t).slots = t.slots := rfl
@[simp] theorem Params.popAdvance_head (p : Params) (t : Transport) : (p.popAdvance t).head = t.head := rfl
@[simp] theorem Params.popAdvance_tail (p : Params) (t : Transport) :
    (p.popAdvance t).tail = p.nextIndex t.tail := rfl
@[simp] theorem Params.popAdvance_ovf (p : Params) (t : Transport) : (p.popAdvance t).ovf = t.ovf := rfl

/-! ## Updates of the parser -/

@[simp] theorem Parser.endDesync_runningStatus (p : Parser) : (p.endDesync).runningStatus = p.runningStatus := rfl
@[simp] theorem Parser.endDesync_currentStatus (p : Parser) : (p.endDesync).currentStatus = p.currentStatus := rfl
@[simp] theorem Parser.endDesync_bytesNeeded (p : Parser) : (p.endDesync).bytesNeeded = p.bytesNeeded := rfl
@[simp] theorem Parser.endDesync_bytesHave (p : Parser) : (p.endDesync).bytesHave = p.bytesHave := rfl
@[simp] theorem Parser.endDesync_pendingD1 (p : Parser) : (p.endDesync).pendingD1 = p.pendingD1 := rfl
@[simp] theorem Parser.endDesync_desynced (p : Parser) : (p.endDesync).desynced = false := rfl
@[simp] theorem Parser.clearTracking_runningStatus (p : Parser) : (p.clearTracking).runningStatus = 0x00#8 := rfl
@[simp] theorem Parser.clearTracking_currentStatus (p : Parser) : (p.clearTracking).currentStatus = 0x00#8 := rfl
@[simp] theorem Parser.clearTracking_bytesNeeded (p : Parser) : (p.clearTracking).bytesNeeded = 0 := rfl
@[simp] theorem Parser.clearTracking_bytesHave (p : Parser) : (p.clearTracking).bytesHave = false := rfl
@[simp] theorem Parser.clearTracking_pendingD1 (p : Parser) : (p.clearTracking).pendingD1 = p.pendingD1 := rfl
@[simp] theorem Parser.clearTracking_desynced (p : Parser) : (p.clearTracking).desynced = p.desynced := rfl
@[simp] theorem Parser.startStatus_runningStatus (b : Byte) (p : Parser) : (p.startStatus b).runningStatus = b := rfl
@[simp] theorem Parser.startStatus_currentStatus (b : Byte) (p : Parser) : (p.startStatus b).currentStatus = b := rfl
@[simp] theorem Parser.startStatus_bytesNeeded (b : Byte) (p : Parser) : (p.startStatus b).bytesNeeded = need b := rfl
@[simp] theorem Parser.startStatus_bytesHave (b : Byte) (p : Parser) : (p.startStatus b).bytesHave = false := rfl
@[simp] theorem Parser.startStatus_pendingD1 (b : Byte) (p : Parser) :
    (p.startStatus b).pendingD1 = p.pendingD1 := rfl
@[simp] theorem Parser.startStatus_desynced (b : Byte) (p : Parser) : (p.startStatus b).desynced = p.desynced := rfl
@[simp] theorem Parser.stash_runningStatus (b : Byte) (p : Parser) :
    (p.stash b).runningStatus = p.runningStatus := rfl
@[simp] theorem Parser.stash_currentStatus (b : Byte) (p : Parser) :
    (p.stash b).currentStatus = p.currentStatus := rfl
@[simp] theorem Parser.stash_bytesNeeded (b : Byte) (p : Parser) : (p.stash b).bytesNeeded = p.bytesNeeded := rfl
@[simp] theorem Parser.stash_bytesHave (b : Byte) (p : Parser) : (p.stash b).bytesHave = true := rfl
@[simp] theorem Parser.stash_pendingD1 (b : Byte) (p : Parser) : (p.stash b).pendingD1 = b := rfl
@[simp] theorem Parser.stash_desynced (b : Byte) (p : Parser) : (p.stash b).desynced = p.desynced := rfl
@[simp] theorem Parser.finishTwo_runningStatus (p : Parser) : (p.finishTwo).runningStatus = p.runningStatus := rfl
@[simp] theorem Parser.finishTwo_currentStatus (p : Parser) : (p.finishTwo).currentStatus = 0x00#8 := rfl
@[simp] theorem Parser.finishTwo_bytesNeeded (p : Parser) : (p.finishTwo).bytesNeeded = p.bytesNeeded := rfl
@[simp] theorem Parser.finishTwo_bytesHave (p : Parser) : (p.finishTwo).bytesHave = p.bytesHave := rfl
@[simp] theorem Parser.finishTwo_pendingD1 (p : Parser) : (p.finishTwo).pendingD1 = p.pendingD1 := rfl
@[simp] theorem Parser.finishTwo_desynced (p : Parser) : (p.finishTwo).desynced = p.desynced := rfl
@[simp] theorem Parser.finishThree_runningStatus (p : Parser) : (p.finishThree).runningStatus = p.runningStatus := rfl
@[simp] theorem Parser.finishThree_currentStatus (p : Parser) : (p.finishThree).currentStatus = 0x00#8 := rfl
@[simp] theorem Parser.finishThree_bytesNeeded (p : Parser) : (p.finishThree).bytesNeeded = p.bytesNeeded := rfl
@[simp] theorem Parser.finishThree_bytesHave (p : Parser) : (p.finishThree).bytesHave = false := rfl
@[simp] theorem Parser.finishThree_pendingD1 (p : Parser) : (p.finishThree).pendingD1 = p.pendingD1 := rfl
@[simp] theorem Parser.finishThree_desynced (p : Parser) : (p.finishThree).desynced = p.desynced := rfl
@[simp] theorem Parser.forceDesync_runningStatus (p : Parser) : (p.forceDesync).runningStatus = 0x00#8 := rfl
@[simp] theorem Parser.forceDesync_currentStatus (p : Parser) : (p.forceDesync).currentStatus = 0x00#8 := rfl
@[simp] theorem Parser.forceDesync_bytesNeeded (p : Parser) : (p.forceDesync).bytesNeeded = 0 := rfl
@[simp] theorem Parser.forceDesync_bytesHave (p : Parser) : (p.forceDesync).bytesHave = false := rfl
@[simp] theorem Parser.forceDesync_pendingD1 (p : Parser) : (p.forceDesync).pendingD1 = 0x00#8 := rfl
@[simp] theorem Parser.forceDesync_desynced (p : Parser) : (p.forceDesync).desynced = true := rfl

/-! ## Updates of the state -/

@[simp] theorem State.emit_params (m : Option MidiMsg) (s : State) : (s.emit m).params = s.params := rfl
@[simp] theorem State.emit_transport (m : Option MidiMsg) (s : State) : (s.emit m).transport = s.transport := rfl
@[simp] theorem State.emit_parser (m : Option MidiMsg) (s : State) : (s.emit m).parser = s.parser := rfl
@[simp] theorem State.emit_sequencer (m : Option MidiMsg) (s : State) : (s.emit m).sequencer = s.sequencer := rfl
@[simp] theorem State.emit_out (m : Option MidiMsg) (s : State) : (s.emit m).out = s.out ++ m.toList := rfl
@[simp] theorem State.emit_refusalMark (m : Option MidiMsg) (s : State) :
    (s.emit m).refusalMark = s.refusalMark := rfl
@[simp] theorem State.emit_producerResponse (m : Option MidiMsg) (s : State) :
    (s.emit m).producerResponse = s.producerResponse := rfl
@[simp] theorem State.emit_consumerResponse (m : Option MidiMsg) (s : State) :
    (s.emit m).consumerResponse = s.consumerResponse := rfl
@[simp] theorem State.emit_schedule (m : Option MidiMsg) (s : State) : (s.emit m).schedule = s.schedule := rfl
@[simp] theorem State.emit_issuer (m : Option MidiMsg) (s : State) : (s.emit m).issuer = s.issuer := rfl
@[simp] theorem State.emit_draws (m : Option MidiMsg) (s : State) : (s.emit m).draws = s.draws := rfl
@[simp] theorem State.respond_params (r : Response) (s : State) : (s.respond r).params = s.params := rfl
@[simp] theorem State.respond_transport (r : Response) (s : State) : (s.respond r).transport = s.transport := rfl
@[simp] theorem State.respond_parser (r : Response) (s : State) : (s.respond r).parser = s.parser := rfl
@[simp] theorem State.respond_sequencer (r : Response) (s : State) : (s.respond r).sequencer = s.sequencer := rfl
@[simp] theorem State.respond_out (r : Response) (s : State) : (s.respond r).out = s.out := rfl
@[simp] theorem State.respond_refusalMark (r : Response) (s : State) :
    (s.respond r).refusalMark = s.refusalMark := rfl
@[simp] theorem State.respond_schedule (r : Response) (s : State) : (s.respond r).schedule = s.schedule := rfl
@[simp] theorem State.respond_issuer (r : Response) (s : State) : (s.respond r).issuer = s.issuer := rfl
@[simp] theorem State.respond_draws (r : Response) (s : State) : (s.respond r).draws = s.draws := rfl
@[simp] theorem State.refuse_params (r : RefusalReason) (s : State) : (s.refuse r).params = s.params := rfl
@[simp] theorem State.refuse_transport (r : RefusalReason) (s : State) : (s.refuse r).transport = s.transport := rfl
@[simp] theorem State.refuse_parser (r : RefusalReason) (s : State) : (s.refuse r).parser = s.parser := rfl
@[simp] theorem State.refuse_sequencer (r : RefusalReason) (s : State) : (s.refuse r).sequencer = s.sequencer := rfl
@[simp] theorem State.refuse_out (r : RefusalReason) (s : State) : (s.refuse r).out = s.out := rfl
@[simp] theorem State.refuse_refusalMark (r : RefusalReason) (s : State) : (s.refuse r).refusalMark = true := rfl
@[simp] theorem State.refuse_schedule (r : RefusalReason) (s : State) : (s.refuse r).schedule = s.schedule := rfl
@[simp] theorem State.refuse_issuer (r : RefusalReason) (s : State) : (s.refuse r).issuer = s.issuer := rfl
@[simp] theorem State.refuse_draws (r : RefusalReason) (s : State) : (s.refuse r).draws = s.draws := rfl
@[simp] theorem State.feed_params (b : Byte) (s : State) : (s.feed b).params = s.params := rfl
@[simp] theorem State.feed_transport (b : Byte) (s : State) : (s.feed b).transport = s.transport := rfl
@[simp] theorem State.feed_parser (b : Byte) (s : State) : (s.feed b).parser = (s.parser.feed b).1 := rfl
@[simp] theorem State.feed_sequencer (b : Byte) (s : State) : (s.feed b).sequencer = s.sequencer := rfl
@[simp] theorem State.feed_out (b : Byte) (s : State) : (s.feed b).out = s.out ++ (s.parser.feed b).2.toList := rfl
@[simp] theorem State.feed_refusalMark (b : Byte) (s : State) : (s.feed b).refusalMark = s.refusalMark := rfl
@[simp] theorem State.feed_producerResponse (b : Byte) (s : State) :
    (s.feed b).producerResponse = s.producerResponse := rfl
@[simp] theorem State.feed_consumerResponse (b : Byte) (s : State) :
    (s.feed b).consumerResponse = s.consumerResponse := rfl
@[simp] theorem State.feed_schedule (b : Byte) (s : State) : (s.feed b).schedule = s.schedule := rfl
@[simp] theorem State.feed_issuer (b : Byte) (s : State) : (s.feed b).issuer = s.issuer := rfl
@[simp] theorem State.feed_draws (b : Byte) (s : State) : (s.feed b).draws = s.draws := rfl
@[simp] theorem State.withTransport_params (t : Transport) (s : State) : (s.withTransport t).params = s.params := rfl
@[simp] theorem State.withTransport_transport (t : Transport) (s : State) : (s.withTransport t).transport = t := rfl
@[simp] theorem State.withTransport_parser (t : Transport) (s : State) : (s.withTransport t).parser = s.parser := rfl
@[simp] theorem State.withTransport_sequencer (t : Transport) (s : State) :
    (s.withTransport t).sequencer = s.sequencer := rfl
@[simp] theorem State.withTransport_out (t : Transport) (s : State) : (s.withTransport t).out = s.out := rfl
@[simp] theorem State.withTransport_refusalMark (t : Transport) (s : State) :
    (s.withTransport t).refusalMark = s.refusalMark := rfl
@[simp] theorem State.withTransport_producerResponse (t : Transport) (s : State) :
    (s.withTransport t).producerResponse = s.producerResponse := rfl
@[simp] theorem State.withTransport_consumerResponse (t : Transport) (s : State) :
    (s.withTransport t).consumerResponse = s.consumerResponse := rfl
@[simp] theorem State.withTransport_schedule (t : Transport) (s : State) :
    (s.withTransport t).schedule = s.schedule := rfl
@[simp] theorem State.withTransport_issuer (t : Transport) (s : State) : (s.withTransport t).issuer = s.issuer := rfl
@[simp] theorem State.withTransport_draws (t : Transport) (s : State) : (s.withTransport t).draws = s.draws := rfl
@[simp] theorem State.withParser_params (p : Parser) (s : State) : (s.withParser p).params = s.params := rfl
@[simp] theorem State.withParser_transport (p : Parser) (s : State) : (s.withParser p).transport = s.transport := rfl
@[simp] theorem State.withParser_parser (p : Parser) (s : State) : (s.withParser p).parser = p := rfl
@[simp] theorem State.withParser_sequencer (p : Parser) (s : State) : (s.withParser p).sequencer = s.sequencer := rfl
@[simp] theorem State.withParser_out (p : Parser) (s : State) : (s.withParser p).out = s.out := rfl
@[simp] theorem State.withParser_refusalMark (p : Parser) (s : State) :
    (s.withParser p).refusalMark = s.refusalMark := rfl
@[simp] theorem State.withParser_producerResponse (p : Parser) (s : State) :
    (s.withParser p).producerResponse = s.producerResponse := rfl
@[simp] theorem State.withParser_consumerResponse (p : Parser) (s : State) :
    (s.withParser p).consumerResponse = s.consumerResponse := rfl
@[simp] theorem State.withParser_schedule (p : Parser) (s : State) : (s.withParser p).schedule = s.schedule := rfl
@[simp] theorem State.withParser_issuer (p : Parser) (s : State) : (s.withParser p).issuer = s.issuer := rfl
@[simp] theorem State.withParser_draws (p : Parser) (s : State) : (s.withParser p).draws = s.draws := rfl
@[simp] theorem State.withPhase_params (ph : Phase) (s : State) : (s.withPhase ph).params = s.params := rfl
@[simp] theorem State.withPhase_transport (ph : Phase) (s : State) : (s.withPhase ph).transport = s.transport := rfl
@[simp] theorem State.withPhase_parser (ph : Phase) (s : State) : (s.withPhase ph).parser = s.parser := rfl
@[simp] theorem State.withPhase_out (ph : Phase) (s : State) : (s.withPhase ph).out = s.out := rfl
@[simp] theorem State.withPhase_refusalMark (ph : Phase) (s : State) :
    (s.withPhase ph).refusalMark = s.refusalMark := rfl
@[simp] theorem State.withPhase_producerResponse (ph : Phase) (s : State) :
    (s.withPhase ph).producerResponse = s.producerResponse := rfl
@[simp] theorem State.withPhase_consumerResponse (ph : Phase) (s : State) :
    (s.withPhase ph).consumerResponse = s.consumerResponse := rfl
@[simp] theorem State.withPhase_schedule (ph : Phase) (s : State) : (s.withPhase ph).schedule = s.schedule := rfl
@[simp] theorem State.withPhase_issuer (ph : Phase) (s : State) : (s.withPhase ph).issuer = s.issuer := rfl
@[simp] theorem State.withPhase_draws (ph : Phase) (s : State) : (s.withPhase ph).draws = s.draws := rfl
@[simp] theorem State.withPhase_phase (ph : Phase) (s : State) : (s.withPhase ph).sequencer.phase = ph := rfl
@[simp] theorem State.withPhase_latchT (ph : Phase) (s : State) :
    (s.withPhase ph).sequencer.latchT = s.sequencer.latchT := rfl
@[simp] theorem State.withPhase_latchB (ph : Phase) (s : State) :
    (s.withPhase ph).sequencer.latchB = s.sequencer.latchB := rfl
@[simp] theorem State.observeEmpty_params (s : State) : (s.observeEmpty).params = s.params := rfl
@[simp] theorem State.observeEmpty_transport (s : State) : (s.observeEmpty).transport = s.transport := rfl
@[simp] theorem State.observeEmpty_parser (s : State) : (s.observeEmpty).parser = s.parser := rfl
@[simp] theorem State.observeEmpty_sequencer (s : State) :
    (s.observeEmpty).sequencer = { s.sequencer with phase := .check } := rfl
@[simp] theorem State.observeEmpty_out (s : State) : (s.observeEmpty).out = s.out := rfl
@[simp] theorem State.observeEmpty_refusalMark (s : State) : (s.observeEmpty).refusalMark = s.refusalMark := rfl
@[simp] theorem State.observeEmpty_producerResponse (s : State) :
    (s.observeEmpty).producerResponse = s.producerResponse := rfl
@[simp] theorem State.observeEmpty_consumerResponse (s : State) :
    (s.observeEmpty).consumerResponse = s.consumerResponse := rfl
@[simp] theorem State.observeEmpty_schedule (s : State) : (s.observeEmpty).schedule = s.schedule := rfl
@[simp] theorem State.observeEmpty_issuer (s : State) : (s.observeEmpty).issuer = s.issuer := rfl
@[simp] theorem State.observeEmpty_draws (s : State) : (s.observeEmpty).draws = s.draws := rfl
@[simp] theorem State.latchPop_params (s : State) : (s.latchPop).params = s.params := rfl
@[simp] theorem State.latchPop_transport (s : State) : (s.latchPop).transport = s.transport := rfl
@[simp] theorem State.latchPop_parser (s : State) : (s.latchPop).parser = s.parser := rfl
@[simp] theorem State.latchPop_sequencer (s : State) :
    (s.latchPop).sequencer = { phase := .commit, latchT := s.transport.tail, latchB := s.params.popByte s.transport } := rfl
@[simp] theorem State.latchPop_out (s : State) : (s.latchPop).out = s.out := rfl
@[simp] theorem State.latchPop_refusalMark (s : State) : (s.latchPop).refusalMark = s.refusalMark := rfl
@[simp] theorem State.latchPop_producerResponse (s : State) :
    (s.latchPop).producerResponse = s.producerResponse := rfl
@[simp] theorem State.latchPop_consumerResponse (s : State) :
    (s.latchPop).consumerResponse = s.consumerResponse := rfl
@[simp] theorem State.latchPop_schedule (s : State) : (s.latchPop).schedule = s.schedule := rfl
@[simp] theorem State.latchPop_issuer (s : State) : (s.latchPop).issuer = s.issuer := rfl
@[simp] theorem State.latchPop_draws (s : State) : (s.latchPop).draws = s.draws := rfl
@[simp] theorem State.popAndFeed_params (s : State) : (s.popAndFeed).params = s.params := rfl
@[simp] theorem State.popAndFeed_transport (s : State) :
    (s.popAndFeed).transport = s.params.popAdvance s.transport := rfl
@[simp] theorem State.popAndFeed_parser (s : State) :
    (s.popAndFeed).parser = (s.parser.feed (s.params.popByte s.transport)).1 := rfl
@[simp] theorem State.popAndFeed_sequencer (s : State) : (s.popAndFeed).sequencer = s.sequencer := rfl
@[simp] theorem State.popAndFeed_out (s : State) :
    (s.popAndFeed).out = s.out ++ (s.parser.feed (s.params.popByte s.transport)).2.toList := rfl
@[simp] theorem State.popAndFeed_refusalMark (s : State) : (s.popAndFeed).refusalMark = s.refusalMark := rfl
@[simp] theorem State.popAndFeed_producerResponse (s : State) :
    (s.popAndFeed).producerResponse = s.producerResponse := rfl
@[simp] theorem State.popAndFeed_consumerResponse (s : State) :
    (s.popAndFeed).consumerResponse = s.consumerResponse := rfl
@[simp] theorem State.popAndFeed_schedule (s : State) : (s.popAndFeed).schedule = s.schedule := rfl
@[simp] theorem State.popAndFeed_issuer (s : State) : (s.popAndFeed).issuer = s.issuer := rfl
@[simp] theorem State.popAndFeed_draws (s : State) : (s.popAndFeed).draws = s.draws := rfl
@[simp] theorem State.commitPop_params (r : Bool) (s : State) : (s.commitPop r).params = s.params := rfl
@[simp] theorem State.commitPop_transport (r : Bool) (s : State) :
    (s.commitPop r).transport = { s.transport with tail := s.commitTail r } := rfl
@[simp] theorem State.commitPop_parser (r : Bool) (s : State) :
    (s.commitPop r).parser = (s.parser.feed s.sequencer.latchB).1 := rfl
@[simp] theorem State.commitPop_sequencer (r : Bool) (s : State) :
    (s.commitPop r).sequencer = { s.sequencer with phase := .poll } := rfl
@[simp] theorem State.commitPop_out (r : Bool) (s : State) :
    (s.commitPop r).out = s.out ++ (s.parser.feed s.sequencer.latchB).2.toList := rfl
@[simp] theorem State.commitPop_refusalMark (r : Bool) (s : State) :
    (s.commitPop r).refusalMark = s.refusalMark := rfl
@[simp] theorem State.commitPop_producerResponse (r : Bool) (s : State) :
    (s.commitPop r).producerResponse = s.producerResponse := rfl
@[simp] theorem State.commitPop_consumerResponse (r : Bool) (s : State) :
    (s.commitPop r).consumerResponse = s.consumerResponse := rfl
@[simp] theorem State.commitPop_schedule (r : Bool) (s : State) : (s.commitPop r).schedule = s.schedule := rfl
@[simp] theorem State.commitPop_issuer (r : Bool) (s : State) : (s.commitPop r).issuer = s.issuer := rfl
@[simp] theorem State.commitPop_draws (r : Bool) (s : State) : (s.commitPop r).draws = s.draws + 1 := rfl
@[simp] theorem State.checkOverflow_params (s : State) : (s.checkOverflow).params = s.params := rfl
@[simp] theorem State.checkOverflow_transport (s : State) :
    (s.checkOverflow).transport = s.transport.clearOverflow := rfl
@[simp] theorem State.checkOverflow_parser (s : State) :
    (s.checkOverflow).parser = if s.transport.ovf then s.parser.forceDesync else s.parser := rfl
@[simp] theorem State.checkOverflow_sequencer (s : State) :
    (s.checkOverflow).sequencer = { s.sequencer with phase := .poll } := rfl
@[simp] theorem State.checkOverflow_out (s : State) : (s.checkOverflow).out = s.out := rfl
@[simp] theorem State.checkOverflow_refusalMark (s : State) : (s.checkOverflow).refusalMark = s.refusalMark := rfl
@[simp] theorem State.checkOverflow_producerResponse (s : State) :
    (s.checkOverflow).producerResponse = s.producerResponse := rfl
@[simp] theorem State.checkOverflow_consumerResponse (s : State) :
    (s.checkOverflow).consumerResponse = s.consumerResponse := rfl
@[simp] theorem State.checkOverflow_schedule (s : State) : (s.checkOverflow).schedule = s.schedule := rfl
@[simp] theorem State.checkOverflow_issuer (s : State) : (s.checkOverflow).issuer = s.issuer := rfl
@[simp] theorem State.checkOverflow_draws (s : State) : (s.checkOverflow).draws = s.draws := rfl
@[simp] theorem State.issued_params (s : State) : (s.issued).params = s.params := rfl
@[simp] theorem State.issued_transport (s : State) : (s.issued).transport = s.transport := rfl
@[simp] theorem State.issued_parser (s : State) : (s.issued).parser = s.parser := rfl
@[simp] theorem State.issued_sequencer (s : State) : (s.issued).sequencer = s.sequencer := rfl
@[simp] theorem State.issued_out (s : State) : (s.issued).out = s.out := rfl
@[simp] theorem State.issued_refusalMark (s : State) : (s.issued).refusalMark = s.refusalMark := rfl
@[simp] theorem State.issued_producerResponse (s : State) : (s.issued).producerResponse = s.producerResponse := rfl
@[simp] theorem State.issued_consumerResponse (s : State) : (s.issued).consumerResponse = s.consumerResponse := rfl
@[simp] theorem State.issued_schedule (s : State) : (s.issued).schedule = s.schedule.tail := rfl
@[simp] theorem State.issued_issuer (s : State) : (s.issued).issuer = (nextIssue s).agent := rfl
@[simp] theorem State.issued_draws (s : State) : (s.issued).draws = s.draws := rfl

theorem State.respond_producer (r : Response) (s : State) (h : s.issuer = .producer) :
    s.respond r = { s with producerResponse := some r } := by simp [State.respond, h]

theorem State.respond_consumer (r : Response) (s : State) (h : s.issuer = .consumer) :
    s.respond r = { s with consumerResponse := some r } := by simp [State.respond, h]

end Sys2Proof.Machine
end

