-- ==== Sys2Proof/Laws/Ops.lean ====
section
/-! SUPPORT. One lemma per shared operation that says once everything it can do; a proof cites these instead of
unfolding the operation. -/

namespace Sys2Proof.Machine

/-! ## The ring -/

theorem Params.ringSize_pos (p : Params) : 0 < p.ringSize := Nat.two_pow_pos p.k

theorem Params.two_le_ringSize (p : Params) (h : 1 ≤ p.k) : 2 ≤ p.ringSize :=
  le_trans (by norm_num) (Nat.pow_le_pow_right (by norm_num : 0 < 2) h)

theorem Params.nextIndex_lt (p : Params) (i : Nat) : p.nextIndex i < p.ringSize := Nat.mod_lt _ p.ringSize_pos

theorem Params.nextIndex_of_lt (p : Params) (i : Nat) (h : i + 1 < p.ringSize) : p.nextIndex i = i + 1 :=
  Nat.mod_eq_of_lt h

theorem Params.nextIndex_last (p : Params) (i : Nat) (h : i + 1 = p.ringSize) : p.nextIndex i = 0 := by
  simp [Params.nextIndex, h]

theorem Transport.isEmpty_iff (t : Transport) : t.isEmpty = true ↔ t.head = t.tail := by simp [Transport.isEmpty]

theorem Params.isFull_iff (p : Params) (t : Transport) : p.isFull t = true ↔ p.nextIndex t.head = t.tail := by
  simp [Params.isFull]

/-- A PUSH on the transport either recovers from an overflow or stores normally (R100, R202). -/
theorem Params.push_cases (p : Params) (b : Byte) (t : Transport) :
    (p.isFull t = true ∧ p.push b t = p.overflowPush b t) ∨
    (p.isFull t = false ∧ p.push b t = p.normalPush b t) := by
  cases h : p.isFull t <;> simp [Params.push, h]

/-! ## The parser -/

/-- Everything case 4 can do after the adoption (R155 to R158). -/
theorem Parser.collect_cases (b : Byte) (p : Parser) :
    (p.bytesNeeded = 1 ∧ p.collect b = (p.finishTwo, some (twoByteMsg p.currentStatus b))) ∨
    (p.bytesNeeded = 2 ∧ p.bytesHave = true ∧
      p.collect b = (p.finishThree, some (threeByteMsg p.currentStatus p.pendingD1 b))) ∨
    (p.bytesNeeded = 2 ∧ p.bytesHave = false ∧ p.collect b = (p.stash b, none)) ∨
    (p.bytesNeeded = 0 ∧ p.collect b = (p, none)) := by
  obtain ⟨rs, cs, need, have_, d1, ds⟩ := p
  fin_cases need <;> cases have_ <;> simp [Parser.collect]

/-- Everything a FEED can do (R131, R202): a real-time emission, a desync discard, a system status, a channel-voice
status, a stray discard, or a data byte collected. -/
theorem Parser.feed_cases (b : Byte) (p : Parser) :
    (isRealtime b = true ∧ p.feed b = (p, some (realtimeMsg b))) ∨
    (isRealtime b = false ∧ p.desynced = true ∧ isData b = true ∧ p.feed b = (p, none)) ∨
    (isRealtime b = false ∧ (p.desynced && isData b) = false ∧ isStatus b = true ∧ isSystem b = true ∧
      p.feed b = (p.endDesync.clearTracking, none)) ∨
    (isRealtime b = false ∧ (p.desynced && isData b) = false ∧ isStatus b = true ∧ isSystem b = false ∧
      p.feed b = (p.endDesync.startStatus b, none)) ∨
    (isRealtime b = false ∧ (p.desynced && isData b) = false ∧ isStatus b = false ∧
      p.currentStatus = 0x00#8 ∧ p.runningStatus = 0x00#8 ∧ p.feed b = (p, none)) ∨
    (isRealtime b = false ∧ (p.desynced && isData b) = false ∧ isStatus b = false ∧
      ¬(p.currentStatus = 0x00#8 ∧ p.runningStatus = 0x00#8) ∧ p.feed b = p.adopt.collect b) := by
  by_cases h1 : isRealtime b = true
  · simp [Parser.feed, h1]
  by_cases h2 : (p.desynced && isData b) = true
  · obtain ⟨hd, hb⟩ := Bool.and_eq_true_iff.mp h2
    simp [Parser.feed, h1, hd, hb]
  by_cases h3 : isStatus b = true
  · by_cases h4 : isSystem b = true <;> simp [Parser.feed, Parser.statusCase, h1, h2, h3, h4]
  · by_cases h5 : p.currentStatus = 0x00#8 ∧ p.runningStatus = 0x00#8 <;>
      simp [Parser.feed, Parser.dataCase, h1, h2, h3, h5]

theorem Parser.adopt_cases (p : Parser) :
    (p.currentStatus = 0x00#8 ∧ p.adopt = { p with currentStatus := p.runningStatus }) ∨
    (p.currentStatus ≠ 0x00#8 ∧ p.adopt = p) := by
  by_cases h : p.currentStatus = 0x00#8 <;> simp [Parser.adopt, h]

@[simp] theorem Parser.feedAll_nil (p : Parser) : p.feedAll [] = (p, []) := rfl

@[simp] theorem Parser.feedAll_cons (b : Byte) (bs : List Byte) (p : Parser) :
    p.feedAll (b :: bs) = (((p.feed b).1.feedAll bs).1, (p.feed b).2.toList ++ ((p.feed b).1.feedAll bs).2) := rfl

theorem Parser.feedAll_append (bs cs : List Byte) (p : Parser) :
    p.feedAll (bs ++ cs) =
      (((p.feedAll bs).1.feedAll cs).1, (p.feedAll bs).2 ++ ((p.feedAll bs).1.feedAll cs).2) := by
  induction bs generalizing p with
  | nil => simp
  | cons b bs ih => simp [ih]

/-! ## The transactions -/

/-- A producer transaction is refused from the consumer and performed from the producer. -/
theorem producerTransaction_cases (run : State → State) (s : State) :
    (s.issuer = .consumer ∧ producerTransaction run s = .next (s.refuse .wrongContext)) ∨
    (s.issuer = .producer ∧ producerTransaction run s = .next (run s)) := by
  cases h : s.issuer <;> simp [producerTransaction, h]

/-- A consumer transaction is refused from the producer, refused during a split pop, or performed. -/
theorem consumerTransaction_cases (run : State → State) (s : State) :
    (s.issuer = .producer ∧ consumerTransaction run s = .next (s.refuse .wrongContext)) ∨
    (s.issuer = .consumer ∧ s.sequencer.phase = .commit ∧
      consumerTransaction run s = .next (s.refuse .splitPopInFlight)) ∨
    (s.ConsumerTurn ∧ consumerTransaction run s = .next (run s)) := by
  cases h : s.issuer <;> cases hp : s.sequencer.phase <;> simp [consumerTransaction, State.ConsumerTurn, h, hp]

theorem consumerTransaction_turn (run : State → State) (s : State) (h : s.ConsumerTurn) :
    consumerTransaction run s = .next (run s) := by
  obtain ⟨h1, h2⟩ := h
  cases hp : s.sequencer.phase <;> simp_all [consumerTransaction]

/-- STEP is refused from the producer and performed from the consumer. -/
theorem stepTransaction_cases (run : State → State) (s : State) :
    (s.issuer = .producer ∧ stepTransaction run s = .next (s.refuse .wrongContext)) ∨
    (s.issuer = .consumer ∧ stepTransaction run s = .next (run s)) := by
  cases h : s.issuer <;> simp [stepTransaction, h]

/-- A FEED transaction performed on the consumer's turn. -/
theorem feedTransaction_turn (b : Byte) (s : State) (h : s.ConsumerTurn) :
    feedTransaction b s = .next ((s.feed b).respond (s.feedResponse b)) :=
  consumerTransaction_turn _ s h

/-- Everything one iteration of the loop can do (R181). -/
theorem State.loopStep_cases (s : State) :
    (s.sequencer.phase = .poll ∧ s.transport.head = s.transport.tail ∧ s.loopStep = s.observeEmpty) ∨
    (s.sequencer.phase = .poll ∧ s.transport.head ≠ s.transport.tail ∧ s.params.atomicPop = true ∧
      s.loopStep = s.popAndFeed) ∨
    (s.sequencer.phase = .poll ∧ s.transport.head ≠ s.transport.tail ∧ s.params.atomicPop = false ∧
      s.loopStep = s.latchPop) ∨
    (s.sequencer.phase = .commit ∧ s.loopStep = s.commitPop (Config.commitRereads s.draws)) ∨
    (s.sequencer.phase = .check ∧ s.loopStep = s.checkOverflow) := by
  cases hp : s.sequencer.phase
  · by_cases he : s.transport.head = s.transport.tail <;> cases ha : s.params.atomicPop <;>
      simp [State.loopStep, Transport.isEmpty, hp, he, ha]
  · simp [State.loopStep, hp]
  · simp [State.loopStep, hp]

/-- A commit writes one of the two values of R184 to `tail`. -/
theorem State.commitTail_cases (r : Bool) (s : State) :
    s.commitTail r = s.params.nextIndex s.transport.tail ∨
    s.commitTail r = s.params.nextIndex s.sequencer.latchT := by
  cases r <;> simp [State.commitTail]

/-- A word is performed as the transaction it spells, or refused by the decoder's reason. -/
theorem performWord_cases (w : TransactionWord) (s : State) :
    (∃ i, decode w = .ok i ∧ performWord w s = exec i s) ∨
    (∃ r, decode w = .error r ∧ performWord w s = .next (s.refuse r)) := by
  cases h : decode w with
  | ok i => exact .inl ⟨i, rfl, by simp [performWord, h]⟩
  | error r => exact .inr ⟨r, rfl, by simp [performWord, h]⟩

theorem nextIssue_cons (s : State) (i : Issue) (rest : List Issue) (h : s.schedule = i :: rest) :
    nextIssue s = i ∧ s.issued = { s with schedule := rest, issuer := i.agent } := by
  simp [nextIssue, State.issued, h]

theorem nextIssue_nil (s : State) (h : s.schedule = []) :
    nextIssue s = { agent := .consumer, word := 0x500 } ∧ s.issued = { s with issuer := .consumer } := by
  simp [nextIssue, State.issued, h, encode]

/-! ## The bytes of the FEED rows -/

theorem dataByte_class (v : BitVec 7) :
    isRealtime (dataByte v) = false ∧ isData (dataByte v) = true ∧ isStatus (dataByte v) = false := by
  revert v; decide

theorem systemByte_class (v : BitVec 3) :
    isRealtime (systemByte v) = false ∧ isData (systemByte v) = false ∧ isStatus (systemByte v) = true ∧
      isSystem (systemByte v) = true := by
  revert v; decide

theorem realtimeByte_class (v : BitVec 3) : isRealtime (realtimeByte v) = true := by revert v; decide

/-- The kinds `0x8 .. 0xE` make channel-voice status bytes. -/
theorem statusByte_class (k c : BitVec 4) (h : 0x8 ≤ k.toNat ∧ k.toNat ≤ 0xE) :
    isRealtime (statusByte k c) = false ∧ isData (statusByte k c) = false ∧ isStatus (statusByte k c) = true ∧
      isSystem (statusByte k c) = false := by
  revert k c; decide

theorem statusByte_kind (k c : BitVec 4) : kindOf (statusByte k c) = k := by revert k c; decide

end Sys2Proof.Machine
end

