-- ==== Sys2Proof/Laws/PerInstr.lean ====
section
/-! SUPPORT. The families of lemmas about every transaction, one lemma per constructor of `Instr`. -/

namespace Sys2Proof.Laws

/-- Every term of `Instr` is well-formed: the operand widths keep the byte in its row (R78). -/
def WellFormedByType.Statement (i : Instr) : Prop := i.wellFormed = true

theorem WellFormedByType.push (b : Byte) : WellFormedByType.Statement (.push b) := by
  revert b; unfold WellFormedByType.Statement; decide
theorem WellFormedByType.pop : WellFormedByType.Statement .pop := by
  unfold WellFormedByType.Statement; decide
theorem WellFormedByType.takeOverflow : WellFormedByType.Statement .takeOverflow := by
  unfold WellFormedByType.Statement; decide
theorem WellFormedByType.feedData (value : BitVec 7) : WellFormedByType.Statement (.feedData value) := by
  revert value; unfold WellFormedByType.Statement; decide
theorem WellFormedByType.feedNoteOff (channel : BitVec 4) : WellFormedByType.Statement (.feedNoteOff channel) := by
  revert channel; unfold WellFormedByType.Statement; decide
theorem WellFormedByType.feedNoteOn (channel : BitVec 4) : WellFormedByType.Statement (.feedNoteOn channel) := by
  revert channel; unfold WellFormedByType.Statement; decide
theorem WellFormedByType.feedPolyPressure (channel : BitVec 4) :
    WellFormedByType.Statement (.feedPolyPressure channel) := by
  revert channel; unfold WellFormedByType.Statement; decide
theorem WellFormedByType.feedControlChange (channel : BitVec 4) :
    WellFormedByType.Statement (.feedControlChange channel) := by
  revert channel; unfold WellFormedByType.Statement; decide
theorem WellFormedByType.feedProgramChange (channel : BitVec 4) :
    WellFormedByType.Statement (.feedProgramChange channel) := by
  revert channel; unfold WellFormedByType.Statement; decide
theorem WellFormedByType.feedChannelPressure (channel : BitVec 4) :
    WellFormedByType.Statement (.feedChannelPressure channel) := by
  revert channel; unfold WellFormedByType.Statement; decide
theorem WellFormedByType.feedPitchBend (channel : BitVec 4) :
    WellFormedByType.Statement (.feedPitchBend channel) := by
  revert channel; unfold WellFormedByType.Statement; decide
theorem WellFormedByType.feedSystem (value : BitVec 3) : WellFormedByType.Statement (.feedSystem value) := by
  revert value; unfold WellFormedByType.Statement; decide
theorem WellFormedByType.feedRealtime (value : BitVec 3) : WellFormedByType.Statement (.feedRealtime value) := by
  revert value; unfold WellFormedByType.Statement; decide
theorem WellFormedByType.forceDesync : WellFormedByType.Statement .forceDesync := by
  unfold WellFormedByType.Statement; decide
theorem WellFormedByType.step : WellFormedByType.Statement .step := by
  unfold WellFormedByType.Statement; decide

end Sys2Proof.Laws
end

