-- ==== Sys2Proof/Laws/Trace.lean ====
section
/-! SUPPORT. What performing the lines of a trace does, and how a `drain` unfolds and ends (R84, R85). -/

namespace Sys2Proof.Machine

theorem State.perform_of_next {i : Issue} {s t : State} (h : performWord i.word { s with issuer := i.agent } = .next t) :
    s.perform i = t := by
  simp [State.perform, h]

@[simp] theorem State.performLines_nil (s : State) : s.performLines [] = s := rfl

@[simp] theorem State.performLines_cons (l : TraceLine) (ls : List TraceLine) (s : State) :
    s.performLines (l :: ls) = (s.perform l.issue).performLines ls := rfl

theorem State.performLines_append (ls more : List TraceLine) (s : State) :
    s.performLines (ls ++ more) = (s.performLines ls).performLines more := by
  simp [State.performLines]

/-- An unmarked STEP line is the consumer's STEP. -/
theorem State.perform_step (s : State) :
    s.perform (plainLine .step).issue = ({ s with issuer := .consumer } : State).loopStep.respond .nothing := by
  refine State.perform_of_next ?_
  have h : decode (plainLine .step).issue.word = .ok .step := by decide
  simp only [performWord, h]
  rfl

theorem State.endsDrain_iff (s : State) :
    s.endsDrain = true ↔ s.sequencer.phase = .check ∧ s.transport.head = s.transport.tail := by
  simp [State.endsDrain, Transport.isEmpty]

theorem drainWithin_last {s : State} (h : s.endsDrain = true) (n : Nat) (gaps : List (List Byte)) :
    drainWithin (n + 1) gaps s = some [plainLine .step] := by
  simp [drainWithin, h]

theorem drainWithin_round {s : State} (h : s.endsDrain = false) (n : Nat) (gaps : List (List Byte)) :
    drainWithin (n + 1) gaps s =
      (drainWithin n gaps.tail (s.performLines (plainLine .step :: send (gaps.headD [])))).map
        (fun ls => plainLine .step :: send (gaps.headD []) ++ ls) := by
  simp [drainWithin, h]

/-- The STEP that ends a `drain` leaves a settled state: `Check` takes the flag and returns to `Poll` (R185, R193). -/
theorem State.settled_of_endsDrain {s : State} (h : s.endsDrain = true) :
    (s.perform (plainLine .step).issue).settled = true := by
  obtain ⟨hp, he⟩ := s.endsDrain_iff.mp h
  rw [State.perform_step]
  simp [State.loopStep, hp, State.checkOverflow, State.settled, State.respond, State.withPhase, State.withParser,
    State.withTransport, Transport.clearOverflow, Transport.isEmpty, he]

end Sys2Proof.Machine
end

