-- ==== Sys2Proof/Tests/Slice0.lean ====
section
/-! SUPPORT. The model's own tests: the checks of `WellFormed`, the decoding of words written out from the opcode
table, single steps from the vectors of `95_test_vectors.md`, and for every obligation with hypotheses a concrete state
that meets them. -/

namespace Sys2Proof.Tests

open Sys2Proof Sys2Proof.Machine

/-! ## Helpers -/

/-- The state a step ends in. -/
def after (o : Host.Outcome State Fault Refusal) : Option State :=
  match o with
  | .next t => some t
  | .fault _ => none
  | .refused _ => none

/-- The reset state of a block with `N = 4` and `ATOMIC_POP`. -/
def base : State := State.resetWith { k := 2, atomicPop := true }

/-- `base` with the transport `head/tail/ovf` and the given slots. -/
def ring (slots : Memory) (head tail : Nat) (ovf : Bool) : State :=
  { base with transport := { slots := slots, head := head, tail := tail, ovf := ovf } }

/-- The state on the producer's turn. -/
def byProducer (s : State) : State := { s with issuer := .producer }

/-- The state of a block without `ATOMIC_POP`. -/
def splitPops (s : State) : State := { s with params := { s.params with atomicPop := false } }

/-- A parser `rs cs need have pd1`, not desynced. -/
def parserOf (rs cs : Byte) (need : Fin 3) (have1 : Bool) (pd1 : Byte) : Parser :=
  { runningStatus := rs, currentStatus := cs, bytesNeeded := need, bytesHave := have1, pendingD1 := pd1,
    desynced := false }

/-- `base` with the given parser. -/
def withP (p : Parser) : State := { base with parser := p }

/-- The parser after `feedseq {0x90,60}` (vector F29). -/
def midNote : Parser := parserOf 0x90 0x90 2 true 60

/-- The desynced parser (vector D1v). -/
def lost : Parser := midNote.forceDesync

/-- Phase Commit with `latch_t = 2`, `latch_b = 0x40` after the overflow PUSH of vector Q8. -/
def inCommit : State :=
  { splitPops (ring [(0, 0x3C), (2, 0x40)] 1 0 true) with
    sequencer := { phase := .commit, latchT := 2, latchB := 0x40 } }

/-- Phase Check. -/
def inCheck (s : State) : State := s.withPhase .check

/-- `base` with one word scheduled. -/
def scheduled (a : Agent) (w : TransactionWord) (s : State) : State :=
  { s with schedule := [{ agent := a, word := w }] }

/-! ## WellFormed: each check refuses an ill-formed term -/

theorem test_wf_producer_may_not_pop : contextAllows .producer .pop = false := by decide
theorem test_wf_consumer_may_not_push : contextAllows .consumer (.push 0x00) = false := by decide
theorem test_wf_word_pop_with_arg : wordReserved 0x101 = true := by decide
theorem test_wf_word_forceDesync_with_arg : wordReserved 0x4FF = true := by decide
theorem test_wf_word_op_reserved : wordReserved 0x600 = true ∧ wordReserved 0xFFF = true := by decide
theorem test_wf_word_legal : wordReserved 0x500 = false ∧ wordReserved 0x3FF = false := by decide
theorem test_wf_byte_of_another_row : argInRow (.feedNoteOn 0x0) 0x05 = false := by decide
theorem test_wf_byte_above_row : argInRow (.feedSystem 0) 0xF8 = false := by decide
theorem test_wf_byte_of_row : argInRow (.feedNoteOn 0x0) 0x9F = true := by decide

/-! ## Decode: words written out from the table's formats (R78, R83; vectors E1 to E11) -/

theorem test_decode_push : decode 0b0000_10010000 = .ok (.push 0x90) := by decide
theorem test_decode_push_ends : decode 0x000 = .ok (.push 0x00) ∧ decode 0x0FF = .ok (.push 0xFF) := by decide
theorem test_decode_pop : decode 0b0001_00000000 = .ok .pop := by decide
theorem test_decode_takeOverflow : decode 0b0010_00000000 = .ok .takeOverflow := by decide
theorem test_decode_feedData : decode 0b0011_01111111 = .ok (.feedData 0x7F) := by decide
theorem test_decode_feedNoteOff : decode 0b0011_1000_1111 = .ok (.feedNoteOff 0xF) := by decide
theorem test_decode_feedNoteOn : decode 0b0011_1001_1111 = .ok (.feedNoteOn 0xF) := by decide
theorem test_decode_feedPolyPressure : decode 0b0011_1010_0000 = .ok (.feedPolyPressure 0x0) := by decide
theorem test_decode_feedControlChange : decode 0b0011_1011_1111 = .ok (.feedControlChange 0xF) := by decide
theorem test_decode_feedProgramChange : decode 0b0011_1100_0000 = .ok (.feedProgramChange 0x0) := by decide
theorem test_decode_feedChannelPressure : decode 0b0011_1101_1111 = .ok (.feedChannelPressure 0xF) := by decide
theorem test_decode_feedPitchBend : decode 0b0011_1110_0000 = .ok (.feedPitchBend 0x0) := by decide
theorem test_decode_feedSystem : decode 0b0011_11110_111 = .ok (.feedSystem 0b111) := by decide
theorem test_decode_feedRealtime : decode 0b0011_11111_000 = .ok (.feedRealtime 0b000) := by decide
theorem test_decode_forceDesync : decode 0b0100_00000000 = .ok .forceDesync := by decide
theorem test_decode_step : decode 0b0101_00000000 = .ok .step := by decide
theorem test_decode_reserved_op :
    decode 0x600 = .error .reservedWord ∧ decode 0x7AB = .error .reservedWord ∧
    decode 0xFFF = .error .reservedWord := by decide
theorem test_decode_reserved_arg :
    decode 0x101 = .error .reservedWord ∧ decode 0x201 = .error .reservedWord ∧
    decode 0x4FF = .error .reservedWord ∧ decode 0x580 = .error .reservedWord := by decide
theorem test_decode_table_word : decodeTableWord 16 0x03C5 = some (.feedProgramChange 0x5) := by decide
theorem test_decode_table_word_too_wide : decodeTableWord 16 0x1100 = none := by decide

/-! ## Single transactions: the ByteTransport -/

/-- Vector T2: `head` wraps to 0. -/
theorem test_push_wraps_head :
    (after (exec (.push 0x55) (byProducer (ring [] 3 1 false)))).map (·.transport) =
      some { slots := [(3, 0x55)], head := 0, tail := 1, ovf := false } := by decide

/-- Vector T4: the destructive reset; slots 1 and 2 keep their bytes. -/
theorem test_push_overflow :
    (after (exec (.push 0x04) (byProducer (ring [(0, 0x01), (1, 0x02), (2, 0x03)] 3 0 false)))).map (·.transport) =
      some { slots := [(0, 0x04), (1, 0x02), (2, 0x03)], head := 1, tail := 0, ovf := true } := by decide

/-- Vector T9: `tail` wraps to 0 and the byte is the response. -/
theorem test_pop_wraps_tail :
    (after (exec .pop (ring [(3, 0x3E)] 0 3 false))).map (fun t => (t.transport.tail, t.consumerResponse)) =
      some (0, some (.byte 0x3E)) := by decide

/-- Vector T11: EMPTY, nothing changed. -/
theorem test_pop_empty :
    after (exec .pop base) = some { base with consumerResponse := some .empty } := by decide

/-- Vector T13: taken when the buffer is not empty; the response is the flag before the clear. -/
theorem test_takeOverflow_when_not_empty :
    (after (exec .takeOverflow (ring [] 2 0 true))).map (fun t => (t.transport, t.consumerResponse)) =
      some ({ slots := [], head := 2, tail := 0, ovf := false }, some (.flag true)) := by decide

/-- Vector T12. -/
theorem test_takeOverflow_when_clear :
    (after (exec .takeOverflow base)).map (fun t => t.consumerResponse) = some (some (.flag false)) := by decide

/-! ## Single transactions: the MidiParser -/

/-- Vector F4: a real-time byte in the middle of a message keeps the stash. -/
theorem test_feedRealtime_mid_message :
    (after (exec (.feedRealtime 0b110) (withP midNote))).map (fun t => (t.parser, t.out)) =
      some (midNote, [{ status := 0xFE, d1 := 0x00, d2 := 0x00, len := .one }]) := by decide

/-- Vector S1 (b): a real-time byte does not end the desync. -/
theorem test_feedRealtime_keeps_desync :
    (after (exec (.feedRealtime 0b000) (withP lost))).map (fun t => t.parser.desynced) = some true := by decide

/-- Vector F10, its third byte: the stash is abandoned, `pd1` keeps a stale value. -/
theorem test_feedSystem_abandons :
    (after (exec (.feedSystem 0b000) (withP midNote))).map (fun t => (t.parser, t.out)) =
      some (parserOf 0x00 0x00 0 false 60, []) := by decide

/-- Vector F8, its first byte: a system byte ends the desync. -/
theorem test_feedSystem_ends_desync :
    (after (exec (.feedSystem 0b000) (withP lost))).map (fun t => t.parser.desynced) = some false := by decide

/-- Vector F29, its second byte: stashed. -/
theorem test_feedData_stashes :
    (after (exec (.feedData 60) (withP (parserOf 0x90 0x90 2 false 0x00)))).map (fun t => (t.parser, t.out)) =
      some (midNote, []) := by decide

/-- Vector F30: adoption of the running status from `cs = 00`. -/
theorem test_feedData_adopts :
    (after (exec (.feedData 0x07) (withP (parserOf 0xC2 0x00 1 false 0x00)))).map (fun t => (t.parser, t.out)) =
      some (parserOf 0xC2 0x00 1 false 0x00, [{ status := 0xC2, d1 := 0x07, d2 := 0x00, len := .two }]) := by decide

/-- Vector F14, its first byte. -/
theorem test_feedNoteOff :
    (after (exec (.feedNoteOff 0x0) base)).map (·.parser) = some (parserOf 0x80 0x80 2 false 0x00) := by decide

/-- Vector S2, its last byte: the second message of a repeated status. -/
theorem test_feedNoteOn_then_data :
    (parserOf 0x90 0x00 2 false 60).feedAll [62, 32] =
      (parserOf 0x90 0x00 2 false 62, [{ status := 0x90, d1 := 0x3E, d2 := 0x20, len := .three }]) := by decide

/-- Vector F25, its fourth byte: a channel change starts a new running status. -/
theorem test_feedNoteOn_new_channel :
    (after (exec (.feedNoteOn 0x1) (withP (parserOf 0x90 0x00 2 false 60)))).map (·.parser) =
      some (parserOf 0x91 0x91 2 false 60) := by decide

/-- Vector F16, its first byte. -/
theorem test_feedPolyPressure :
    (after (exec (.feedPolyPressure 0x3) base)).map (·.parser) = some (parserOf 0xA3 0xA3 2 false 0x00) := by decide

/-- Vector F17, its first byte. -/
theorem test_feedControlChange :
    (after (exec (.feedControlChange 0x0) base)).map (·.parser) = some (parserOf 0xB0 0xB0 2 false 0x00) := by decide

/-- Vector F26, its third byte: a two-byte kind abandoned for a one-byte kind. -/
theorem test_feedProgramChange_abandons :
    (after (exec (.feedProgramChange 0x0) (withP midNote))).map (·.parser) =
      some (parserOf 0xC0 0xC0 1 false 60) := by decide

/-- Vector F20, its first byte. -/
theorem test_feedChannelPressure :
    (after (exec (.feedChannelPressure 0x2) base)).map (·.parser) = some (parserOf 0xD2 0xD2 1 false 0x00) := by decide

/-- Vector F22, its first byte. -/
theorem test_feedPitchBend :
    (after (exec (.feedPitchBend 0x5) base)).map (·.parser) = some (parserOf 0xE5 0xE5 2 false 0x00) := by decide

/-- Vector D1v: the stash is cleared too. -/
theorem test_forceDesync :
    (after (exec .forceDesync (withP midNote))).map (·.parser) =
      some { parserOf 0x00 0x00 0 false 0x00 with desynced := true } := by decide

/-- Vector D4v: the transport is not touched. -/
theorem test_forceDesync_keeps_transport :
    (after (exec .forceDesync (ring [] 2 0 true))).map (·.transport) = some (ring [] 2 0 true).transport := by decide

/-! ## STEP -/

/-- Vector Q4: an atomic pop feeds the byte. -/
theorem test_step_pops_and_feeds :
    (after (exec .step (ring [(0, 0x90)] 1 0 false))).map (fun t => (t.transport.tail, t.parser)) =
      some (1, parserOf 0x90 0x90 2 false 0x00) := by decide

/-- Vector Q7, its last step: `Check` takes the overflow and desyncs, the byte stays unread. -/
theorem test_step_check_desyncs :
    (after (exec .step (inCheck (ring [(0, 0x04)] 1 0 true)))).map (fun t => (t.transport, t.parser)) =
      some ({ slots := [(0, 0x04)], head := 1, tail := 0, ovf := false }, lost) := by decide

/-- Vector Q8: the commit writes 3 by the latched index and 1 by the re-read one. -/
theorem test_commit_both_draws :
    (inCommit.commitPop false).transport.tail = 3 ∧ (inCommit.commitPop true).transport.tail = 1 := by decide

/-- Vector Q8: the latched byte is fed, and the phase is `Poll`. -/
theorem test_commit_feeds_latched_byte :
    ({ inCommit with parser := parserOf 0xC0 0xC0 1 false 0x00 }.commitPop true).out =
      [{ status := 0xC0, d1 := 0x40, d2 := 0x00, len := .two }] ∧
    (inCommit.commitPop true).sequencer.phase = .poll := by decide

/-! ## Refusals and traces -/

/-- Vectors X1 and X3: refused, nothing else changed. -/
theorem test_wrong_context :
    after (exec .pop (byProducer (ring [(3, 0x3E)] 0 3 false))) =
      some { byProducer (ring [(3, 0x3E)] 0 3 false) with
        refusalMark := true, producerResponse := some (.refused .wrongContext) } := by decide

/-- Vector Q9. -/
theorem test_split_pop_in_flight :
    after (exec .pop inCommit) =
      some { inCommit with refusalMark := true, consumerResponse := some (.refused .splitPopInFlight) } := by decide

/-- Vector E3: a reserved word is refused, and the schedule goes on. -/
theorem test_reserved_word :
    (after (step (scheduled .consumer 0x101 base))).map (fun t => (t.refusalMark, t.consumerResponse, t.schedule)) =
      some (true, some (.refused .reservedWord), []) := by decide

/-- The words of vector Q7: `500 001 002 003 004 500`. -/
theorem test_trace_encoding :
    (encodeTrace (plainLine .step :: send [0x01, 0x02, 0x03, 0x04] ++ [plainLine .step])).map (·.word) =
      [0x500, 0x001, 0x002, 0x003, 0x004, 0x500] := by decide

/-- Lines as R84 writes them: both byte forms, an agent mark, a comment, a blank line, and a malformed one. -/
theorem test_trace_assembler :
    assemble base ["push 0x90".toList, "C: feed 60  -- a data byte".toList, [], "P:pop".toList] =
      some [{ agent := .producer, word := 0x090 }, { agent := .consumer, word := 0x33C },
        { agent := .producer, word := 0x100 }] ∧
    assemble base ["push 256".toList] = none := by decide

/-- A pseudo-transaction, with commas and blanks between its bytes (R85). -/
theorem test_trace_feedseq :
    assemble base ["feedseq 0x90, 60,64".toList] = some (encodeTrace (feedseq [0x90, 60, 64])) := by decide

/-- A `drain` after two pushes, and one from an empty buffer: 4 STEPs, then 2 (R85). -/
theorem test_trace_drain :
    (assemble base ["send 0xF0, 1; C: drain".toList, "drain".toList]).map (fun is => is.map (·.word)) =
      some [0x0F0, 0x001, 0x500, 0x500, 0x500, 0x500, 0x500, 0x500] := by decide

/-- A byte pushed between the empty observation and the `Check`: the drain goes on (R85, vector Q6). -/
theorem test_drain_push_between :
    base.drainExpansion [[0xF0]] =
      some (plainLine .step :: plainLine (.push 0xF0) :: List.replicate 4 (plainLine .step)) := by decide

/-- The text of a line is read back as that line. -/
theorem test_trace_text :
    ∀ l ∈ [plainLine (.push 0xAB), { agent := some .consumer, op := .takeOverflow },
        { agent := some .producer, op := .forceDesync }, plainLine (.feed 0x07)],
      (parseLine l.text).bind (fun t => t.expand base) = some [l] := by decide

/-! ## Witnesses: the hypotheses of each obligation are met -/

theorem witness_EncodeDecodeRoundTrip : decode 0x0FF = .ok (.push 0xFF) := by decide

theorem witness_DecoderMatchesOneRowOrReserves :
    wordReserved 0x500 = false ∧ wordReserved 0x3FF = false ∧ wordReserved 0x501 = true ∧
    wordReserved 0x600 = true := by decide

theorem witness_StepPerformsDecodedTransaction :
    (scheduled .producer 0x0AA base).schedule = { agent := .producer, word := 0x0AA } :: [] ∧
    decode 0x0AA = .ok (.push 0xAA) := by decide

theorem witness_StepRefusesReservedWord :
    wordReserved 0x600 = true ∧
    (scheduled .producer 0x600 base).schedule = { agent := .producer, word := 0x600 } :: [] ∧
    (scheduled .consumer 0x600 base).schedule = { agent := .consumer, word := 0x600 } :: [] := by decide

theorem witness_EmptyScheduleRunsTheLoop : base.schedule = [] := by decide

theorem witness_EveryTransactionAnswers : (byProducer base).issuer = .producer ∧ base.issuer = .consumer := by decide

/-- At the top index, with the buffer empty, and with one slot to spare. -/
theorem witness_PushStoresByteAtHead :
    ((byProducer (ring [] 3 3 false)).issuer = .producer ∧ WF1 (byProducer (ring [] 3 3 false)) ∧
      (3 + 1) % 2 ^ base.params.k ≠ 3) ∧
    (WF1 (byProducer (ring [] 3 1 false)) ∧ (3 + 1) % 2 ^ base.params.k ≠ 1) := by decide

theorem witness_PushOverflowRecovers :
    (byProducer (ring [] 3 0 false)).issuer = .producer ∧ (3 + 1) % 2 ^ base.params.k = 0 := by decide

/-- With `N = 2`, the smallest block. -/
theorem witness_OverflowByteIsPoppedNext :
    let s := byProducer { ring [] 1 0 false with params := { k := 1, atomicPop := true } }
    s.issuer = .producer ∧ s.ParamsOk ∧ s.sequencer.phase ≠ .commit ∧
    (s.transport.head + 1) % 2 ^ s.params.k = s.transport.tail := by decide

theorem witness_PopTakesByteAtTail :
    let s := ring [(3, 0x3E)] 0 3 false
    s.ConsumerTurn ∧ WF1 s ∧ s.transport.head ≠ s.transport.tail := by decide

theorem witness_PopEmptyChangesNothing :
    base.ConsumerTurn ∧ base.transport.head = base.transport.tail := by decide

theorem witness_TakeOverflowReadsAndClears :
    (ring [] 2 0 true).ConsumerTurn ∧ (inCheck base).ConsumerTurn := by decide

theorem witness_OverflowsCoalesce :
    (ring [] 2 0 true).ConsumerTurn ∧ (ring [] 2 0 true).transport.ovf = true := by decide

theorem witness_WrongContextRefused :
    (base.issuer = .consumer ∧ ∃ b, Instr.push 0xAA = .push b) ∧
    ((byProducer base).issuer = .producer ∧ ∀ b, Instr.step ≠ .push b) :=
  ⟨⟨rfl, 0xAA, rfl⟩, rfl, fun _ h => Instr.noConfusion h⟩

theorem witness_SplitPopAllowsOnlyStep :
    (∀ b, Instr.pop ≠ .push b) ∧ Instr.pop ≠ .step ∧
    (inCommit.issuer = .consumer ∧ inCommit.sequencer.phase = .commit) ∧
    (base.issuer = .consumer ∧ base.sequencer.phase ≠ .commit) :=
  ⟨fun _ h => Instr.noConfusion h, by decide, by decide, by decide⟩

theorem witness_RefusalMarkIsSticky :
    (∃ t, step (scheduled .producer 0x100 base) = .next t ∧ base.refusalMark = false ∧ t.refusalMark = true) ∧
    (∃ t, step { base with refusalMark := true } = .next t) :=
  ⟨⟨_, rfl, rfl, rfl⟩, _, rfl⟩

/-- In `Poll` and in `Check`, in the middle of a message and desynced: the turn in which FEED and FORCE_DESYNC are
performed. -/
theorem witness_RealtimeEmitsAndChangesNothing :
    base.ConsumerTurn ∧ (inCheck base).ConsumerTurn ∧ (withP midNote).ConsumerTurn ∧
    (withP lost).ConsumerTurn := by decide

theorem witness_SystemStatusClearsTracking : (withP midNote).ConsumerTurn ∧ (withP lost).ConsumerTurn := by decide

theorem witness_ChannelVoiceStartsRunningStatus :
    (withP midNote).ConsumerTurn ∧ (withP lost).ConsumerTurn := by decide

theorem witness_DesyncedDataDiscarded :
    (withP lost).ConsumerTurn ∧ lost.desynced = true ∧
    ∀ b ∈ [0x00#8, 0x7F#8, 0xF8#8, 0xFF#8], b.toNat < 0x80 ∨ 0xF8 ≤ b.toNat := by decide

theorem witness_StrayDataAbsorbed :
    base.ConsumerTurn ∧ base.parser.currentStatus = 0x00#8 ∧ base.parser.runningStatus = 0x00#8 := by decide

/-- With `current_status` set, and with it 0 so that the running status is adopted. -/
theorem witness_DataByteCompletesLengthTwo :
    ∀ p ∈ [parserOf 0xC0 0xC0 1 false 0x00, parserOf 0xC0 0x00 1 false 0x00],
      (withP p).ConsumerTurn ∧ p.desynced = false ∧ p.bytesNeeded = 1 ∧
      0xC0#8 = (if p.currentStatus = 0x00#8 then p.runningStatus else p.currentStatus) ∧ 0xC0#8 ≠ 0x00#8 := by decide

theorem witness_FirstDataByteStashed :
    ∀ p ∈ [parserOf 0x90 0x90 2 false 0x00, parserOf 0x90 0x00 2 false 60],
      (withP p).ConsumerTurn ∧ p.desynced = false ∧ p.bytesNeeded = 2 ∧ p.bytesHave = false ∧
      0x90#8 = (if p.currentStatus = 0x00#8 then p.runningStatus else p.currentStatus) ∧ 0x90#8 ≠ 0x00#8 := by decide

theorem witness_SecondDataByteCompletesLengthThree :
    (withP midNote).ConsumerTurn ∧ midNote.desynced = false ∧ midNote.bytesNeeded = 2 ∧ midNote.bytesHave = true ∧
    0x90#8 = (if midNote.currentStatus = 0x00#8 then midNote.runningStatus else midNote.currentStatus) ∧
    0x90#8 ≠ 0x00#8 := by decide

/-- The state of vector F31, outside `WF`, for the first clause; a parser of `WF` with a status for the second. -/
theorem witness_DataByteWithNoNeedIgnored :
    (∀ p ∈ [parserOf 0x90 0x90 0 false 0x00], (withP p).ConsumerTurn ∧ p.desynced = false ∧
      p.bytesNeeded = 0 ∧
      0x90#8 = (if p.currentStatus = 0x00#8 then p.runningStatus else p.currentStatus) ∧ 0x90#8 ≠ 0x00#8) ∧
    (midNote.WF ∧ (midNote.currentStatus ≠ 0x00#8 ∨ midNote.runningStatus ≠ 0x00#8)) := by decide

theorem witness_ChannelVoiceMessagesComplete :
    0x9#4 ∈ [0x8#4, 0x9#4, 0xA#4, 0xB#4, 0xE#4] ∧ 0xC#4 ∈ [0xC#4, 0xD#4] := by decide

theorem witness_RunningStatusExpands :
    0xE#4 ∈ [0x8#4, 0x9#4, 0xA#4, 0xB#4, 0xE#4] ∧ 0xD#4 ∈ [0xC#4, 0xD#4] ∧
    [((0x7F : BitVec 7), (0x00 : BitVec 7))] ≠ [] ∧ [(0x00 : BitVec 7)] ≠ [] := by decide

theorem witness_RealtimeTransparent : 0xF8 ≤ (0xF8#8).toNat ∧ 0xF8 ≤ (0xFF#8).toNat := by decide

theorem witness_SystemExclusiveBodyDiscarded :
    ∀ b ∈ [0x7E#8, 0xF8#8, 0x7F#8], b.toNat < 0x80 ∨ 0xF8 ≤ b.toNat := by decide

theorem witness_FeedEmitsWhatItReturns : (withP midNote).ConsumerTurn ∧ 0xF8 ≤ (0xF8#8).toNat := by decide

theorem witness_ForceDesyncResetsParser : (withP midNote).ConsumerTurn := by decide

/-- Messages of all three lengths are emitted after a FORCE_DESYNC. -/
theorem witness_ForceDesyncForgetsEarlierBytes :
    (midNote.forceDesync.feedAll [0xF8, 0xC0, 0x05, 0x90, 60, 64]).2.map MidiMsg.len = [.one, .two, .three] := by decide

theorem witness_StepObservesEmptyBuffer :
    base.issuer = .consumer ∧ base.sequencer.phase = .poll ∧ base.transport.head = base.transport.tail := by decide

theorem witness_StepPopsAndFeeds :
    let s := ring [(3, 0xF8)] 0 3 false
    s.issuer = .consumer ∧ s.sequencer.phase = .poll ∧ s.transport.head ≠ s.transport.tail ∧
    s.params.atomicPop = true ∧ WF1 s := by decide

theorem witness_StepLatchesSplitPop :
    let s := splitPops (ring [(2, 0x40)] 1 2 false)
    s.issuer = .consumer ∧ s.sequencer.phase = .poll ∧ s.transport.head ≠ s.transport.tail ∧
    s.params.atomicPop = false ∧ WF1 s := by decide

theorem witness_StepCommitsSplitPop : inCommit.issuer = .consumer ∧ inCommit.sequencer.phase = .commit := by decide

theorem witness_UninterruptedSplitPopIsAtomicPop :
    let s := splitPops (ring [(3, 0xF8)] 0 3 false)
    s.issuer = .consumer ∧ s.sequencer.phase = .poll ∧ s.transport.head ≠ s.transport.tail ∧
    s.params.atomicPop = false ∧ WF1 s := by decide

/-- With and without an overflow, and with a byte unread (vectors Q6 and Q7). -/
theorem witness_StepTakesOverflowAndDesyncs :
    ∀ s ∈ [inCheck base, inCheck (ring [(0, 0x04)] 1 0 true), inCheck (ring [(0, 0x90)] 1 0 false)],
      s.issuer = .consumer ∧ s.sequencer.phase = .check := by decide

theorem witness_StepNeverLosesAnOverflow :
    (∃ t, exec .step (ring [] 0 0 true) = .next t ∧ (ring [] 0 0 true).transport.ovf = true) ∧
    (∃ t, exec .step (inCheck (ring [] 0 0 true)) = .next t ∧ (inCheck (ring [] 0 0 true)).transport.ovf = true) :=
  ⟨⟨_, rfl, rfl⟩, _, rfl, rfl⟩

theorem witness_SettledLoopOnlyAlternates : base.schedule = [] ∧ base.settled = true := by decide

/-- A full buffer at the wrap, in either mode, from `Poll` and from `Check`. -/
theorem witness_DrainSettles :
    ∀ s ∈ [ring [] 2 3 true, inCheck (ring [] 2 3 true), splitPops (ring [] 2 3 true),
        splitPops (inCheck (ring [] 2 3 true))],
      WF1 s ∧ s.schedule = [] ∧ (s.sequencer.phase = .poll ∨ s.sequencer.phase = .check) ∧
      s.params.count s.transport = 3 ∧ s.ParamsOk := by decide

/-- In `Commit` with no PUSH between the halves, of a full buffer; and with one (vector Q8). -/
theorem witness_DrainSettles_commit :
    (∀ s ∈ [{ splitPops (ring [] 2 3 true) with sequencer := { phase := .commit, latchT := 3, latchB := 0x40 } }],
      WF1 s ∧ s.schedule = [] ∧ s.sequencer.phase = .commit ∧ s.params.atomicPop = false ∧
      s.sequencer.latchT = s.transport.tail ∧ s.transport.head ≠ s.transport.tail) ∧
    (WF1 inCommit ∧ inCommit.schedule = [] ∧ inCommit.sequencer.phase = .commit) := by decide

theorem witness_TransactionsKeepWellFormedness :
    base.ParamsOk ∧ (withP midNote).WF ∧ inCommit.WF ∧ (∃ t, exec .step inCommit = .next t) ∧
    (∃ t, exec (.feedData 0x7F) (withP midNote) = .next t) :=
  ⟨by decide, by decide, by decide, ⟨_, rfl⟩, _, rfl⟩

theorem witness_StepKeepsInvariant :
    (ring [(0, 0x3C), (2, 0x40)] 3 0 false).Inv ∧ inCommit.Inv ∧ (∃ t, step inCommit = .next t) :=
  ⟨by decide, by decide, _, rfl⟩

/-- A step that emits a length-3 message. -/
theorem witness_EmittedMessagesLegal :
    midNote.WF ∧ (scheduled .consumer 0x340 (withP midNote)).OutLegal ∧
    ∃ t, step (scheduled .consumer 0x340 (withP midNote)) = .next t ∧ t.out.length = 1 :=
  ⟨by decide, fun _ h => (List.not_mem_nil h).elim, _, rfl, rfl⟩

/-- A parser of `WF` in each of the five abstract states. -/
theorem witness_ParserFollowsTransitionTable :
    ∀ e ∈ [(lost, AbsState.desync), (base.parser, .idle), (parserOf 0xD0 0xD0 1 false 0x00, .run1),
        (parserOf 0xEF 0x00 2 false 0x7F, .run2a), (midNote, .run2b)],
      e.1.WF ∧ e.1.absState = e.2 := by decide

/-- A normal PUSH, an overflow PUSH, a POP of a byte and a POP of an empty buffer. -/
theorem witness_RingRefinesQueue :
    base.ParamsOk ∧ WF1 (ring [] 2 3 false) ∧ WF1 (ring [] 3 3 false) ∧ (byProducer base).issuer = .producer ∧
    (∃ t, exec (.push 0xFF) (byProducer (ring [] 2 3 false)) = .next t) ∧
    (∃ t, exec (.push 0xFF) (byProducer (ring [] 3 3 false)) = .next t) ∧
    (ring [] 2 3 false).ConsumerTurn ∧ (∃ t, exec .pop (ring [] 2 3 false) = .next t) ∧
    (∃ t, exec .pop (ring [] 3 3 false) = .next t) :=
  ⟨by decide, by decide, by decide, rfl, ⟨_, rfl⟩, ⟨_, rfl⟩, by decide, ⟨_, rfl⟩, _, rfl⟩

/-- The smallest block from its top index, and a block of four slots. -/
theorem witness_CapacityIsNMinusOne :
    (1 ≤ 1 ∧ 1 < 2 ^ 1 ∧ [0xAA#8].length = 2 ^ 1 - 1) ∧
    (1 ≤ 2 ∧ 3 < 2 ^ 2 ∧ [0x00#8, 0x7F#8, 0xFF#8].length = 2 ^ 2 - 1 ∧ 2 ≤ 2) := by decide

theorem witness_ProducerNeverTouchesConsumerState :
    (byProducer base).issuer = .producer ∧ ∃ t, exec (.push 0xFF) (byProducer base) = .next t := ⟨rfl, _, rfl⟩

theorem witness_ConsumerNeverWritesHeadOrSlots :
    base.issuer = .consumer ∧ ∃ t, exec .pop (ring [(3, 0x3E)] 0 3 true) = .next t ∧ t.transport.ovf = true :=
  ⟨rfl, _, rfl, rfl⟩

/-- Each flag set once and cleared once. -/
theorem witness_FlagsWrittenOnlyAsTabled :
    (∃ t, exec (.push 0x04) (byProducer (ring [] 3 0 false)) = .next t ∧ t.transport.ovf = true) ∧
    (∃ t, exec .takeOverflow (ring [] 0 0 true) = .next t ∧ t.transport.ovf = false) ∧
    (∃ t, exec .step (inCheck (ring [] 0 0 true)) = .next t ∧ t.transport.ovf = false ∧ t.parser.desynced = true) ∧
    (∃ t, exec (.feedSystem 7) (withP lost) = .next t ∧ t.parser.desynced = false) ∧
    (∃ t, exec (.feedData 60) (withP (parserOf 0x90 0x90 2 false 0x00)) = .next t ∧ t.parser.bytesHave = true) ∧
    (∃ t, exec .forceDesync (withP midNote) = .next t ∧ t.parser.bytesHave = false) :=
  ⟨⟨_, rfl, rfl⟩, ⟨_, rfl, rfl⟩, ⟨_, rfl, rfl, rfl⟩, ⟨_, rfl, rfl⟩, ⟨_, rfl, rfl⟩, _, rfl, rfl⟩

/-- STEP ends a desync and stashes a byte by the byte it pops, and completes a message by the byte it latched. -/
theorem witness_FlagsWrittenOnlyAsTabled_step :
    (∃ t, exec .step { ring [(0, 0xF7)] 1 0 false with parser := lost } = .next t ∧ t.parser.desynced = false) ∧
    (∃ t, exec .step { ring [(0, 0x7F)] 1 0 false with parser := parserOf 0x90 0x90 2 false 0x00 } = .next t ∧
      t.parser.bytesHave = true) ∧
    (∃ t, exec .step { inCommit with parser := midNote } = .next t ∧ t.parser.bytesHave = false) :=
  ⟨⟨_, rfl, rfl⟩, ⟨_, rfl, rfl⟩, _, rfl, rfl⟩

theorem witness_ParametersNeverChange :
    (∃ t, step base = .next t) ∧ ∃ t, exec .pop base = .next t := ⟨⟨_, rfl⟩, _, rfl⟩

theorem witness_OutputLogOnlyGrows :
    ∃ t, step (scheduled .consumer 0x3F8 base) = .next t ∧ t.out.length = 1 := ⟨_, rfl, rfl⟩

/-- Each of the four labels is met. -/
theorem witness_ErrorConditionsHaveTheirEffects :
    errorCondition (.push 0x04) (byProducer (ring [] 3 0 false)) = some .overflow ∧
    errorCondition .step (inCheck (ring [] 0 0 true)) = some .desync ∧
    errorCondition .forceDesync base = some .desync ∧
    errorCondition (.feedSystem 0) base = some .ignoredSystem ∧
    errorCondition (.feedData 0x45) base = some .stray ∧
    (∃ t, exec (.feedData 0x45) base = .next t) :=
  ⟨by decide, by decide, by decide, by decide, by decide, _, rfl⟩

end Sys2Proof.Tests
end

section
/-! SUPPORT. Everything one transaction can do, said once: `exec_effect`. Every statement about what transactions
change or keep follows from it and from the lemmas of each element of the block. -/

namespace Sys2Proof.Machine

/-! ## The ten FEED rows are one FEED -/

/-- The rows that hand a byte to the parser (R78). -/
def isFeedRow : Instr → Bool
  | .push _ | .pop | .takeOverflow | .forceDesync | .step => false
  | _ => true

theorem exec_feedRow (i : Instr) (s : State) (h : isFeedRow i = true) : exec i s = feedTransaction i.argByte s := by
  cases i with
  | push _ | pop | takeOverflow | forceDesync | step => cases h
  | feedData _ | feedSystem _ | feedRealtime _ => rfl
  | feedNoteOff _ | feedNoteOn _ | feedPolyPressure _ | feedControlChange _ => rfl
  | feedProgramChange _ | feedChannelPressure _ | feedPitchBend _ => rfl

/-- The row of a FEED is the row that its byte selects (R70, R78). -/
theorem feedInstr_argByte (i : Instr) (h : isFeedRow i = true) : feedInstr i.argByte = i := by
  cases i with
  | push _ | pop | takeOverflow | forceDesync | step => cases h
  | feedData v | feedSystem v | feedRealtime v => revert v; decide
  | feedNoteOff c | feedNoteOn c | feedPolyPressure c | feedControlChange c => revert c; decide
  | feedProgramChange c | feedChannelPressure c | feedPitchBend c => revert c; decide

theorem argByte_feedInstr (b : Byte) : (feedInstr b).argByte = b := by revert b; decide

theorem isFeedRow_feedInstr (b : Byte) : isFeedRow (feedInstr b) = true := by revert b; decide

theorem feedInstr_context (b : Byte) : (feedInstr b).context = .consumer := by revert b; decide

theorem feedInstr_ne_step (b : Byte) : feedInstr b ≠ .step := by revert b; decide

/-- FEED of a byte is the one FEED transaction of that byte (R131). -/
theorem exec_feedInstr (b : Byte) (s : State) : exec (feedInstr b) s = feedTransaction b s := by
  rw [exec_feedRow _ s (isFeedRow_feedInstr b), argByte_feedInstr]

/-! ## What a transaction can do -/

/-- What transaction `i`, performed in `s`, can leave behind: a refusal with its reason (R204), or the transaction's
own effect under the conditions that select it. -/
inductive Effect (s : State) : Instr → State → Prop
  | wrongContext (i : Instr) (hi : s.issuer ≠ i.context) : Effect s i (s.refuse .wrongContext)
  | splitPopInFlight (i : Instr) (hi : s.issuer = .consumer) (hc : i.context = .consumer) (hs : i ≠ .step)
      (hp : s.sequencer.phase = .commit) : Effect s i (s.refuse .splitPopInFlight)
  | push (b : Byte) (hi : s.issuer = .producer) :
      Effect s (.push b) ((s.withTransport (s.params.push b s.transport)).respond .nothing)
  | popEmpty (ht : s.ConsumerTurn) (he : s.transport.head = s.transport.tail) : Effect s .pop (s.respond .empty)
  | popByte (ht : s.ConsumerTurn) (he : s.transport.head ≠ s.transport.tail) :
      Effect s .pop
        ((s.withTransport (s.params.popAdvance s.transport)).respond (.byte (s.params.popByte s.transport)))
  | takeOverflow (ht : s.ConsumerTurn) :
      Effect s .takeOverflow ((s.withTransport s.transport.clearOverflow).respond (.flag s.transport.ovf))
  | feed (b : Byte) (ht : s.ConsumerTurn) : Effect s (feedInstr b) ((s.feed b).respond (s.feedResponse b))
  | forceDesync (ht : s.ConsumerTurn) :
      Effect s .forceDesync ((s.withParser s.parser.forceDesync).respond .nothing)
  | observeEmpty (hi : s.issuer = .consumer) (hp : s.sequencer.phase = .poll)
      (he : s.transport.head = s.transport.tail) : Effect s .step (s.observeEmpty.respond .nothing)
  | popAndFeed (hi : s.issuer = .consumer) (hp : s.sequencer.phase = .poll)
      (he : s.transport.head ≠ s.transport.tail) (ha : s.params.atomicPop = true) :
      Effect s .step (s.popAndFeed.respond .nothing)
  | latchPop (hi : s.issuer = .consumer) (hp : s.sequencer.phase = .poll)
      (he : s.transport.head ≠ s.transport.tail) (ha : s.params.atomicPop = false) :
      Effect s .step (s.latchPop.respond .nothing)
  | commitPop (hi : s.issuer = .consumer) (hp : s.sequencer.phase = .commit) :
      Effect s .step ((s.commitPop (Config.commitRereads s.draws)).respond .nothing)
  | checkOverflow (hi : s.issuer = .consumer) (hp : s.sequencer.phase = .check) :
      Effect s .step (s.checkOverflow.respond .nothing)

/-- A consumer transaction other than STEP has its refusals and the effect of its run. -/
theorem consumerTransaction_effect {i : Instr} {run : State → State} {s : State} (hc : i.context = .consumer)
    (hs : i ≠ .step) (hrun : s.ConsumerTurn → Effect s i (run s)) :
    ∃ t, consumerTransaction run s = .next t ∧ Effect s i t := by
  obtain ⟨hi, h⟩ | ⟨hi, hp, h⟩ | ⟨ht, h⟩ := consumerTransaction_cases run s
  · exact ⟨_, h, .wrongContext i (by simp [hi, hc])⟩
  · exact ⟨_, h, .splitPopInFlight i hi hc hs hp⟩
  · exact ⟨_, h, hrun ht⟩

theorem execPush_effect (b : Byte) (s : State) : ∃ t, execPush b s = .next t ∧ Effect s (.push b) t := by
  obtain ⟨hi, h⟩ | ⟨hi, h⟩ := producerTransaction_cases
    (fun s => (s.withTransport (s.params.push b s.transport)).respond .nothing) s
  · exact ⟨_, h, .wrongContext _ (by simp [hi, Instr.context])⟩
  · exact ⟨_, h, .push b hi⟩

theorem execPop_effect (s : State) : ∃ t, execPop s = .next t ∧ Effect s .pop t := by
  refine consumerTransaction_effect rfl (by simp) fun ht => ?_
  by_cases he : s.transport.head = s.transport.tail
  · simpa [Transport.isEmpty, he] using Effect.popEmpty ht he
  · simpa [Transport.isEmpty, he] using Effect.popByte ht he

theorem execTakeOverflow_effect (s : State) : ∃ t, execTakeOverflow s = .next t ∧ Effect s .takeOverflow t :=
  consumerTransaction_effect rfl (by simp) .takeOverflow

theorem execForceDesync_effect (s : State) : ∃ t, execForceDesync s = .next t ∧ Effect s .forceDesync t :=
  consumerTransaction_effect rfl (by simp) .forceDesync

theorem feedTransaction_effect (b : Byte) (s : State) :
    ∃ t, feedTransaction b s = .next t ∧ Effect s (feedInstr b) t :=
  consumerTransaction_effect (feedInstr_context b) (feedInstr_ne_step b) (.feed b)

theorem execStep_effect (s : State) : ∃ t, execStep s = .next t ∧ Effect s .step t := by
  obtain ⟨hi, h⟩ | ⟨hi, h⟩ := stepTransaction_cases (fun s => s.loopStep.respond .nothing) s
  · exact ⟨_, h, .wrongContext _ (by simp [hi, Instr.context])⟩
  · refine ⟨_, h, ?_⟩
    obtain ⟨hp, he, hl⟩ | ⟨hp, he, ha, hl⟩ | ⟨hp, he, ha, hl⟩ | ⟨hp, hl⟩ | ⟨hp, hl⟩ := s.loopStep_cases <;> rw [hl]
    · exact .observeEmpty hi hp he
    · exact .popAndFeed hi hp he ha
    · exact .latchPop hi hp he ha
    · exact .commitPop hi hp
    · exact .checkOverflow hi hp

/-- Every transaction answers a next state, and that state is one of its effects (R200, R204). -/
theorem exec_answers (i : Instr) (s : State) : ∃ t, exec i s = .next t ∧ Effect s i t := by
  by_cases hf : isFeedRow i = true
  · obtain ⟨t, h, he⟩ := feedTransaction_effect i.argByte s
    rw [feedInstr_argByte i hf] at he
    exact ⟨t, (exec_feedRow i s hf).trans h, he⟩
  · cases i with
    | push b => exact execPush_effect b s
    | pop => exact execPop_effect s
    | takeOverflow => exact execTakeOverflow_effect s
    | forceDesync => exact execForceDesync_effect s
    | step => exact execStep_effect s
    | _ => exact absurd rfl hf

theorem exec_effect {i : Instr} {s t : State} (h : exec i s = .next t) : Effect s i t := by
  obtain ⟨u, hu, he⟩ := exec_answers i s
  rw [hu] at h
  cases h
  exact he

/-! ## The rules: an effect whose conditions hold is what the transaction answers -/

/-- PUSH from the producer is performed in every phase (R100, R189). -/
theorem exec_push_producer {s : State} (h : s.issuer = .producer) (b : Byte) :
    exec (.push b) s = .next ((s.withTransport (s.params.push b s.transport)).respond .nothing) := by
  obtain ⟨hi, -⟩ | ⟨-, hx⟩ := producerTransaction_cases
    (fun s => (s.withTransport (s.params.push b s.transport)).respond .nothing) s
  · exact absurd (h.symm.trans hi) (by simp)
  · exact hx

/-- POP on the consumer's turn (R106, R107). -/
theorem exec_pop_turn {s : State} (h : s.ConsumerTurn) :
    exec .pop s = .next (
      if s.transport.isEmpty then s.respond .empty
      else (s.withTransport (s.params.popAdvance s.transport)).respond (.byte (s.params.popByte s.transport))) :=
  consumerTransaction_turn (fun s =>
    if s.transport.isEmpty then s.respond .empty
    else (s.withTransport (s.params.popAdvance s.transport)).respond (.byte (s.params.popByte s.transport))) s h

/-- TAKE_OVERFLOW on the consumer's turn (R110). -/
theorem exec_takeOverflow_turn {s : State} (h : s.ConsumerTurn) :
    exec .takeOverflow s = .next ((s.withTransport s.transport.clearOverflow).respond (.flag s.transport.ovf)) :=
  consumerTransaction_turn (fun s => (s.withTransport s.transport.clearOverflow).respond (.flag s.transport.ovf)) s h

/-- FEED on the consumer's turn (R131). -/
theorem exec_feedInstr_turn {s : State} (h : s.ConsumerTurn) (b : Byte) :
    exec (feedInstr b) s = .next ((s.feed b).respond (s.feedResponse b)) :=
  (exec_feedInstr b s).trans (feedTransaction_turn b s h)

/-- FORCE_DESYNC on the consumer's turn (R160). -/
theorem exec_forceDesync_turn {s : State} (h : s.ConsumerTurn) :
    exec .forceDesync s = .next ((s.withParser s.parser.forceDesync).respond .nothing) :=
  consumerTransaction_turn (fun s => (s.withParser s.parser.forceDesync).respond .nothing) s h

/-- STEP from the consumer is always performed (R181). -/
theorem exec_step_consumer {s : State} (h : s.issuer = .consumer) :
    exec .step s = .next (s.loopStep.respond .nothing) := by
  obtain ⟨hi, -⟩ | ⟨-, hx⟩ := stepTransaction_cases (fun s => s.loopStep.respond .nothing) s
  · exact absurd (h.symm.trans hi) (by simp)
  · exact hx

/-- A transaction issued in the other agent's context has no effect but the refusal (R204, R214). -/
theorem Effect.eq_refuse_of_wrongContext {s t : State} {i : Instr} (h : Effect s i t) (hc : s.issuer ≠ i.context) :
    t = s.refuse .wrongContext := by
  cases h with
  | wrongContext => rfl
  | splitPopInFlight _ hi hc' => exact absurd (hi.trans hc'.symm) hc
  | feed b ht => exact absurd (ht.left.trans (feedInstr_context b).symm) hc
  | popEmpty ht | popByte ht | takeOverflow ht | forceDesync ht => exact absurd ht.left hc
  | push _ hi | observeEmpty hi | popAndFeed hi | latchPop hi | commitPop hi | checkOverflow hi => exact absurd hi hc

/-- While a split pop is in flight, a consumer transaction other than STEP has no effect but the refusal (R186). -/
theorem Effect.eq_refuse_of_splitPop {s t : State} {i : Instr} (h : Effect s i t) (hi : s.issuer = .consumer)
    (hc : i.context = .consumer) (hs : i ≠ .step) (hp : s.sequencer.phase = .commit) :
    t = s.refuse .splitPopInFlight := by
  cases h with
  | wrongContext _ hi' => exact absurd (hi.trans hc.symm) hi'
  | splitPopInFlight => rfl
  | push => cases hc
  | feed _ ht | popEmpty ht | popByte ht | takeOverflow ht | forceDesync ht => exact absurd hp ht.right
  | observeEmpty | popAndFeed | latchPop | commitPop | checkOverflow => exact absurd rfl hs

theorem exec_wrongContext {i : Instr} {s : State} (h : s.issuer ≠ i.context) :
    exec i s = .next (s.refuse .wrongContext) := by
  obtain ⟨t, hx, he⟩ := exec_answers i s
  rw [hx, he.eq_refuse_of_wrongContext h]

theorem exec_splitPopInFlight {i : Instr} {s : State} (hi : s.issuer = .consumer) (hc : i.context = .consumer)
    (hs : i ≠ .step) (hp : s.sequencer.phase = .commit) : exec i s = .next (s.refuse .splitPopInFlight) := by
  obtain ⟨t, hx, he⟩ := exec_answers i s
  rw [hx, he.eq_refuse_of_splitPop hi hc hs hp]

/-- `Effect` says what `exec` answers, no more and no less. -/
theorem exec_eq_next_iff {i : Instr} {s t : State} : exec i s = .next t ↔ Effect s i t := by
  refine ⟨exec_effect, fun h => ?_⟩
  cases h with
  | wrongContext _ hi => exact exec_wrongContext hi
  | splitPopInFlight _ hi hc hs hp => exact exec_splitPopInFlight hi hc hs hp
  | push b hi => exact exec_push_producer hi b
  | popEmpty ht he => simp [exec_pop_turn ht, Transport.isEmpty, he]
  | popByte ht he => simp [exec_pop_turn ht, Transport.isEmpty, he]
  | takeOverflow ht => exact exec_takeOverflow_turn ht
  | feed b ht => exact exec_feedInstr_turn ht b
  | forceDesync ht => exact exec_forceDesync_turn ht
  | observeEmpty hi hp he => simp [exec_step_consumer hi, State.loopStep, Transport.isEmpty, hp, he]
  | popAndFeed hi hp he ha => simp [exec_step_consumer hi, State.loopStep, Transport.isEmpty, hp, he, ha]
  | latchPop hi hp he ha => simp [exec_step_consumer hi, State.loopStep, Transport.isEmpty, hp, he, ha]
  | commitPop hi hp => simp [exec_step_consumer hi, State.loopStep, hp]
  | checkOverflow hi hp => simp [exec_step_consumer hi, State.loopStep, hp]

/-! ## What a step can do -/

/-- A step performs the next issue's transaction in the issued state, or refuses its reserved word there (R82,
R188). -/
theorem step_effect {s t : State} (h : step s = .next t) :
    (∃ i, decode (nextIssue s).word = .ok i ∧ Effect s.issued i t) ∨
    (∃ r, decode (nextIssue s).word = .error r ∧ t = s.issued.refuse r) := by
  obtain ⟨i, hd, hw⟩ | ⟨r, hd, hw⟩ := performWord_cases (nextIssue s).word s.issued
  · exact .inl ⟨i, hd, exec_effect (hw.symm.trans h)⟩
  · cases hw.symm.trans h
    exact .inr ⟨r, hd, rfl⟩

/-! ## What a transaction does to each element of the block -/

/-- No transaction writes the parameters, the schedule or the issuer (R38). -/
theorem Effect.frame {s t : State} {i : Instr} (h : Effect s i t) :
    t.params = s.params ∧ t.schedule = s.schedule ∧ t.issuer = s.issuer := by
  cases h <;> simp

/-- What a transaction can do to the transport: PUSH from the producer (R100); from the consumer a new `tail` in
range (R106, R184), or the flag's clear by TAKE_OVERFLOW or by STEP in Check (R110, R185). -/
theorem Effect.transport_cases {s t : State} {i : Instr} (h : Effect s i t) :
    t.transport = s.transport ∨
    (s.issuer = .producer ∧ ∃ b, i = .push b ∧ t.transport = s.params.push b s.transport) ∨
    (s.issuer = .consumer ∧ ∃ x, t.transport = { s.transport with tail := s.params.nextIndex x }) ∨
    (s.issuer = .consumer ∧ (i = .takeOverflow ∨ (i = .step ∧ s.sequencer.phase = .check)) ∧
      t.transport = s.transport.clearOverflow) := by
  cases h with
  | wrongContext | splitPopInFlight | popEmpty | feed | forceDesync | observeEmpty | latchPop => exact .inl (by simp)
  | push b hi => exact .inr (.inl ⟨hi, b, rfl, rfl⟩)
  | popByte ht => exact .inr (.inr (.inl ⟨ht.1, s.transport.tail, rfl⟩))
  | popAndFeed hi => exact .inr (.inr (.inl ⟨hi, s.transport.tail, rfl⟩))
  | commitPop hi => exact .inr (.inr (.inl ⟨hi, _, rfl⟩))
  | takeOverflow ht => exact .inr (.inr (.inr ⟨ht.1, .inl rfl, rfl⟩))
  | checkOverflow hi hp => exact .inr (.inr (.inr ⟨hi, .inr ⟨rfl, hp⟩, rfl⟩))

/-- Transaction `i` in `s` feeds byte `b`: as a FEED, as a STEP that pops it, or as the commit of a split pop
(R131, R182, R184). -/
def Feeds (i : Instr) (s : State) (b : Byte) : Prop :=
  i = feedInstr b ∨
  (i = .step ∧ s.sequencer.phase = .poll ∧ s.params.atomicPop = true ∧ s.transport.head ≠ s.transport.tail ∧
    b = s.params.popByte s.transport) ∨
  (i = .step ∧ s.sequencer.phase = .commit ∧ b = s.sequencer.latchB)

/-- Transaction `i` in `s` discards the parser state: FORCE_DESYNC, or STEP that takes an overflow (R160, R185). -/
def Desyncs (i : Instr) (s : State) : Prop :=
  i = .forceDesync ∨ (i = .step ∧ s.sequencer.phase = .check ∧ s.transport.ovf = true)

/-- What a transaction can do to the parser: nothing, one FEED, or the discard of FORCE_DESYNC. -/
theorem Effect.parser_cases {s t : State} {i : Instr} (h : Effect s i t) :
    t.parser = s.parser ∨ (∃ b, Feeds i s b ∧ t.parser = (s.parser.feed b).1) ∨
    (Desyncs i s ∧ t.parser = s.parser.forceDesync) := by
  cases h with
  | wrongContext | splitPopInFlight | push | popEmpty | popByte | takeOverflow | observeEmpty | latchPop =>
    exact .inl (by simp)
  | feed b => exact .inr (.inl ⟨b, .inl rfl, rfl⟩)
  | popAndFeed hi hp he ha => exact .inr (.inl ⟨_, .inr (.inl ⟨rfl, hp, ha, he, rfl⟩), rfl⟩)
  | commitPop hi hp => exact .inr (.inl ⟨_, .inr (.inr ⟨rfl, hp, rfl⟩), rfl⟩)
  | forceDesync => exact .inr (.inr ⟨.inl rfl, rfl⟩)
  | checkOverflow hi hp =>
    cases hv : s.transport.ovf with
    | true => exact .inr (.inr ⟨.inr ⟨rfl, hp, hv⟩, by simp [hv]⟩)
    | false => exact .inl (by simp [hv])

/-- What a transaction can do to the sequencer: leave it, leave the phase `Commit`, or latch a byte without
`ATOMIC_POP` (R183 to R185). -/
theorem Effect.sequencer_cases {s t : State} {i : Instr} (h : Effect s i t) :
    t.sequencer = s.sequencer ∨
    (∃ ph, ph ≠ .commit ∧ t.sequencer = { s.sequencer with phase := ph }) ∨
    (s.params.atomicPop = false ∧ t.sequencer.latchT = s.transport.tail) := by
  cases h with
  | wrongContext | splitPopInFlight | push | popEmpty | popByte | takeOverflow | feed | forceDesync | popAndFeed =>
    exact .inl (by simp)
  | observeEmpty => exact .inr (.inl ⟨.check, by simp, rfl⟩)
  | commitPop | checkOverflow => exact .inr (.inl ⟨.poll, by simp, rfl⟩)
  | latchPop hi hp he ha => exact .inr (.inr ⟨ha, rfl⟩)

end Sys2Proof.Machine
end

section
/-! SUPPORT. The facts about the byte classes, and what FEED does to each field of the parser and to its abstract
state. -/

namespace Sys2Proof.Machine

/-! ## Byte classes and needs -/

theorem isStatus_iff (b : Byte) : isStatus b = true ↔ 0x80 ≤ b.toNat := by revert b; decide

theorem isStatus_eq_false_iff (b : Byte) : isStatus b = false ↔ b.toNat < 0x80 := by revert b; decide

theorem isData_iff (b : Byte) : isData b = true ↔ b.toNat < 0x80 := by simp [isData]

theorem isRealtime_eq_false_iff (b : Byte) : isRealtime b = false ↔ b.toNat < 0xF8 := by simp [isRealtime]

theorem isSystem_eq_false_iff (b : Byte) : isSystem b = false ↔ b.toNat < 0xF0 := by simp [isSystem]

/-- A status byte that is not real-time lies in `0x80 .. 0xF7` (R70). -/
theorem status_range {b : Byte} (hr : isRealtime b = false) (hs : isStatus b = true) :
    0x80 ≤ b.toNat ∧ b.toNat ≤ 0xF7 :=
  ⟨(isStatus_iff b).mp hs, Nat.le_of_lt_succ ((isRealtime_eq_false_iff b).mp hr)⟩

/-- Only the null status needs no data byte (R72). -/
theorem need_eq_zero_iff (x : Byte) : need x = 0 ↔ x = 0x00#8 := by revert x; decide

theorem ne_zero_of_isStatus {b : Byte} (h : isStatus b = true) : b ≠ 0x00#8 := by
  rintro rfl
  exact absurd h (by decide)

/-! ## The adoption of the running status -/

@[simp] theorem Parser.adopt_runningStatus (p : Parser) : p.adopt.runningStatus = p.runningStatus := by
  unfold Parser.adopt; split <;> rfl
@[simp] theorem Parser.adopt_bytesNeeded (p : Parser) : p.adopt.bytesNeeded = p.bytesNeeded := by
  unfold Parser.adopt; split <;> rfl
@[simp] theorem Parser.adopt_bytesHave (p : Parser) : p.adopt.bytesHave = p.bytesHave := by
  unfold Parser.adopt; split <;> rfl
@[simp] theorem Parser.adopt_pendingD1 (p : Parser) : p.adopt.pendingD1 = p.pendingD1 := by
  unfold Parser.adopt; split <;> rfl
@[simp] theorem Parser.adopt_desynced (p : Parser) : p.adopt.desynced = p.desynced := by
  unfold Parser.adopt; split <;> rfl

/-- With any status at all, there is a message in progress after the adoption (R154). -/
theorem Parser.adopt_currentStatus_ne_zero {p : Parser}
    (h : ¬(p.currentStatus = 0x00#8 ∧ p.runningStatus = 0x00#8)) : p.adopt.currentStatus ≠ 0x00#8 := by
  obtain ⟨hc, ha⟩ | ⟨hc, ha⟩ := p.adopt_cases
  · simpa [ha] using fun hr => h ⟨hc, hr⟩
  · simpa [ha] using hc

/-- The adoption keeps `WF`. -/
theorem Parser.adopt_wf {p : Parser} (h : p.WF) : p.adopt.WF := by
  obtain ⟨hc, ha⟩ | ⟨-, ha⟩ := p.adopt_cases
  · obtain ⟨h2, -, h4, h5, h6, h7⟩ := h
    rw [ha]
    refine ⟨h2, .inr rfl, h4, fun hh => absurd hc (h5 hh).1, h6, fun hd => ?_⟩
    obtain ⟨hr, -, hn, hh⟩ := h7 hd
    exact ⟨hr, hr, hn, hh⟩
  · rwa [ha]

/-! ## `WF` of the parser -/

/-- A data byte collected into a message in progress keeps `WF`. -/
theorem Parser.collect_wf {b : Byte} {p : Parser} (h : p.WF) (hc : p.currentStatus ≠ 0x00#8) (hb : b.toNat < 0x80) :
    (p.collect b).1.WF := by
  obtain ⟨h2, h3, h4, h5, h6, h7⟩ := h
  have hsync : p.desynced = true → False := fun hd => hc (h7 hd).2.1
  obtain ⟨hn, hp⟩ | ⟨hn, -, hp⟩ | ⟨hn, -, hp⟩ | ⟨-, hp⟩ := p.collect_cases b <;> rw [hp]
  · refine ⟨h2, .inl rfl, h4, fun hh => ?_, h6, fun hd => (hsync hd).elim⟩
    simpa [hn] using (h5 hh).2
  · exact ⟨h2, .inl rfl, h4, by simp [WF5], h6, fun hd => (hsync hd).elim⟩
  · exact ⟨h2, h3, h4, fun _ => ⟨hc, hn⟩, hb, fun hd => (hsync hd).elim⟩
  · exact ⟨h2, h3, h4, h5, h6, h7⟩

theorem Parser.clearTracking_wf {p : Parser} (h : p.WF) : p.clearTracking.WF := by
  obtain ⟨-, -, -, -, h6, -⟩ := h
  exact ⟨.inl rfl, .inl rfl, rfl, by simp [WF5], h6, fun _ => ⟨rfl, rfl, rfl, rfl⟩⟩

/-- A channel-voice status byte `0x80 .. 0xEF` starts from a parser that is not desynced (R142, R144). -/
theorem Parser.startStatus_wf {b : Byte} {p : Parser} (h : p.WF) (hb : 0x80 ≤ b.toNat ∧ b.toNat ≤ 0xEF) :
    (p.endDesync.startStatus b).WF := by
  obtain ⟨-, -, -, -, h6, -⟩ := h
  exact ⟨.inr hb, .inr rfl, rfl, by simp [WF5], h6, by simp [WF7]⟩

theorem Parser.endDesync_wf {p : Parser} (h : p.WF) : p.endDesync.WF := by
  obtain ⟨h2, h3, h4, h5, h6, -⟩ := h
  exact ⟨h2, h3, h4, h5, h6, by simp [WF7]⟩

/-- FORCE_DESYNC leaves a parser of `WF` whatever it finds (R160). -/
theorem Parser.forceDesync_wf (p : Parser) : p.forceDesync.WF :=
  ⟨.inl rfl, .inl rfl, rfl, by simp [WF5], by simp [WF6], fun _ => ⟨rfl, rfl, rfl, rfl⟩⟩

/-- FEED of any byte keeps the parser's `WF` (R41). -/
theorem Parser.feed_wf {p : Parser} (h : p.WF) (b : Byte) : (p.feed b).1.WF := by
  obtain ⟨-, hf⟩ | ⟨-, -, -, hf⟩ | ⟨-, -, -, -, hf⟩ | ⟨-, -, hs, hy, hf⟩ | ⟨-, -, -, -, -, hf⟩ |
    ⟨-, -, hs, hst, hf⟩ := p.feed_cases b <;> rw [hf]
  · exact h
  · exact h
  · exact Parser.clearTracking_wf (Parser.endDesync_wf h)
  · have hlo := (isStatus_iff b).mp hs
    have hhi := (isSystem_eq_false_iff b).mp hy
    exact Parser.startStatus_wf h ⟨hlo, by omega⟩
  · exact h
  · exact Parser.collect_wf (Parser.adopt_wf h) (Parser.adopt_currentStatus_ne_zero hst)
      ((isStatus_eq_false_iff b).mp hs)

/-! ## The flags `desynced` and `bytes_have` -/

/-- Collecting a data byte leaves `desynced` alone. -/
@[simp] theorem Parser.collect_desynced (b : Byte) (p : Parser) : (p.collect b).1.desynced = p.desynced := by
  obtain ⟨-, hp⟩ | ⟨-, -, hp⟩ | ⟨-, -, hp⟩ | ⟨-, hp⟩ := p.collect_cases b <;> rw [hp] <;> rfl

/-- `bytes_have` changes by a data byte only when two are needed (R156, R157). -/
theorem Parser.collect_bytesHave (b : Byte) (p : Parser) :
    (p.collect b).1.bytesHave = p.bytesHave ∨ p.bytesNeeded = 2 := by
  obtain ⟨-, hp⟩ | ⟨hn, -⟩ | ⟨hn, -⟩ | ⟨-, hp⟩ := p.collect_cases b
  · exact .inl (by rw [hp]; rfl)
  · exact .inr hn
  · exact .inr hn
  · exact .inl (by rw [hp])

/-- FEED changes `desynced` only by a byte `0x80 .. 0xF7`, which clears it (R142). -/
theorem Parser.feed_desynced (b : Byte) (p : Parser) :
    (p.feed b).1.desynced = p.desynced ∨
    ((p.feed b).1.desynced = false ∧ 0x80 ≤ b.toNat ∧ b.toNat ≤ 0xF7) := by
  obtain ⟨-, hf⟩ | ⟨-, -, -, hf⟩ | ⟨hr, -, hs, -, hf⟩ | ⟨hr, -, hs, -, hf⟩ | ⟨-, -, -, -, -, hf⟩ | ⟨-, -, -, -, hf⟩ :=
    p.feed_cases b <;> rw [hf]
  · exact .inl rfl
  · exact .inl rfl
  · exact .inr ⟨rfl, status_range hr hs⟩
  · exact .inr ⟨rfl, status_range hr hs⟩
  · exact .inl rfl
  · exact .inl (by simp)

/-- FEED changes `bytes_have` only by a status byte `0x80 .. 0xF7`, which clears it, or by a data byte when two are
needed (R143, R144, R156, R157). -/
theorem Parser.feed_bytesHave (b : Byte) (p : Parser) :
    (p.feed b).1.bytesHave = p.bytesHave ∨
    ((p.feed b).1.bytesHave = false ∧ 0x80 ≤ b.toNat ∧ b.toNat ≤ 0xF7) ∨
    (b.toNat < 0x80 ∧ p.bytesNeeded = 2) := by
  obtain ⟨-, hf⟩ | ⟨-, -, -, hf⟩ | ⟨hr, -, hs, -, hf⟩ | ⟨hr, -, hs, -, hf⟩ | ⟨-, -, -, -, -, hf⟩ | ⟨-, -, hs, -, hf⟩ :=
    p.feed_cases b <;> rw [hf]
  · exact .inl rfl
  · exact .inl rfl
  · exact .inr (.inl ⟨rfl, status_range hr hs⟩)
  · exact .inr (.inl ⟨rfl, status_range hr hs⟩)
  · exact .inl rfl
  · obtain h | h := p.adopt.collect_bytesHave b
    · exact .inl (by simpa using h)
    · exact .inr (.inr ⟨(isStatus_eq_false_iff b).mp hs, by simpa using h⟩)

end Sys2Proof.Machine
end

section
/-! SUPPORT. `WF`, the latch and the slot space through a transaction and a step, and what they settle (R41). -/

namespace Sys2Proof.Machine

/-! ## The reset state -/

theorem resetWith_parser_wf (p : Params) : (State.resetWith p).parser.WF :=
  ⟨.inl rfl, .inl rfl, rfl, by simp [WF5, State.resetWith], by simp [WF6, State.resetWith],
    by simp [WF7, State.resetWith]⟩

theorem resetWith_wf (p : Params) : (State.resetWith p).WF :=
  ⟨⟨p.ringSize_pos, p.ringSize_pos⟩, resetWith_parser_wf p, by simp [WF8, State.resetWith]⟩

/-- Settles O12. -/
theorem resetMeetsInvariant : Obligations.ResetMeetsInvariant := by
  have hk : State.reset.ParamsOk := Nat.le_add_left 1 Config.ringBitsLessOne
  have hlatch : State.reset.LatchOk := Params.ringSize_pos _
  have hmem : State.reset.MemoryOk := ⟨Memory.reset_wf, fun _ hc => nomatch hc⟩
  exact ⟨⟨hk, resetWith_wf _, hlatch, hmem⟩, fun _ hm => nomatch hm⟩

/-! ## The ring indices and the slot space -/

/-- PUSH keeps the indices below `N`; the recovery writes `head` 1, so `N` must be at least 2 (R8, R100). -/
theorem Params.push_indices {p : Params} (hk : 1 ≤ p.k) (b : Byte) {t : Transport} (ht : t.tail < p.ringSize) :
    (p.push b t).head < p.ringSize ∧ (p.push b t).tail < p.ringSize := by
  obtain ⟨-, hp⟩ | ⟨-, hp⟩ := p.push_cases b t <;> rw [hp]
  · exact ⟨p.two_le_ringSize hk, p.ringSize_pos⟩
  · exact ⟨p.nextIndex_lt t.head, ht⟩

/-- PUSH writes one slot `0 .. N-1`. -/
theorem Params.push_slots (p : Params) (b : Byte) (t : Transport) :
    ∃ a, a < p.ringSize ∧ (p.push b t).slots = t.slots.write a b := by
  obtain ⟨-, hp⟩ | ⟨-, hp⟩ := p.push_cases b t <;> rw [hp]
  · exact ⟨_, Nat.mod_lt _ p.ringSize_pos, rfl⟩
  · exact ⟨_, Nat.mod_lt _ p.ringSize_pos, rfl⟩

/-- WF1 through a transaction. -/
theorem Effect.wf1 {s t : State} {i : Instr} (h : Effect s i t) (hk : s.ParamsOk) (hw : WF1 s) : WF1 t := by
  obtain ⟨hhead, htail⟩ := hw
  obtain ⟨hp, -, -⟩ := h.frame
  obtain ht | ⟨-, b, -, ht⟩ | ⟨-, x, ht⟩ | ⟨-, -, ht⟩ := h.transport_cases <;> rw [WF1, hp, ht]
  · exact ⟨hhead, htail⟩
  · exact Params.push_indices hk b htail
  · exact ⟨hhead, s.params.nextIndex_lt x⟩
  · exact ⟨hhead, htail⟩

/-- The parser's part of `WF` through a transaction. -/
theorem Effect.parser_wf {s t : State} {i : Instr} (h : Effect s i t) (hw : s.parser.WF) : t.parser.WF := by
  obtain hp | ⟨b, -, hp⟩ | ⟨-, hp⟩ := h.parser_cases <;> rw [hp]
  · exact hw
  · exact Parser.feed_wf hw b
  · exact Parser.forceDesync_wf _

/-- WF8 through a transaction: only the latch of a split pop enters `Commit`. -/
theorem Effect.wf8 {s t : State} {i : Instr} (h : Effect s i t) (hw : WF8 s) : WF8 t := by
  obtain ⟨hp, -, -⟩ := h.frame
  obtain hq | ⟨ph, hph, hq⟩ | ⟨ha, -⟩ := h.sequencer_cases <;> intro hc <;> rw [hp]
  · exact hw (hq ▸ hc)
  · rw [hq] at hc
    exact absurd hc hph
  · exact ha

theorem Effect.wf {s t : State} {i : Instr} (h : Effect s i t) (hk : s.ParamsOk) (hw : s.WF) : t.WF := by
  obtain ⟨h1, hp, h8⟩ := hw
  exact ⟨h.wf1 hk h1, h.parser_wf hp, h.wf8 h8⟩

/-- Settles O48. -/
theorem transactionsKeepWellFormedness : Obligations.TransactionsKeepWellFormedness :=
  ⟨resetWith_wf, fun _ _ _ hk hw h => (exec_effect h).wf hk hw⟩

/-! ## The model's own invariant -/

/-- The latched index stays in range: a split pop latches `tail` (R184). -/
theorem Effect.latchOk {s t : State} {i : Instr} (h : Effect s i t) (hw : WF1 s) (hl : s.LatchOk) : t.LatchOk := by
  obtain ⟨hp, -, -⟩ := h.frame
  obtain ⟨-, htail⟩ := hw
  obtain hq | ⟨ph, -, hq⟩ | ⟨-, hq⟩ := h.sequencer_cases <;> rw [State.LatchOk, hp, hq]
  · exact hl
  · exact hl
  · exact htail

/-- The slot space stays canonical and inside `0 .. N-1` (R50). -/
theorem Effect.memoryOk {s t : State} {i : Instr} (h : Effect s i t) (hm : s.MemoryOk) : t.MemoryOk := by
  obtain ⟨hp, -, -⟩ := h.frame
  obtain ht | ⟨-, b, -, ht⟩ | ⟨-, x, ht⟩ | ⟨-, -, ht⟩ := h.transport_cases <;> rw [State.MemoryOk, hp, ht]
  · exact hm
  · obtain ⟨hwf, hin⟩ := hm
    obtain ⟨a, ha, hs⟩ := s.params.push_slots b s.transport
    rw [hs]
    exact ⟨Memory.write_wf _ a b hwf, Memory.write_within _ _ a b ha hin⟩
  · exact hm
  · exact hm

theorem Effect.inv {s t : State} {i : Instr} (h : Effect s i t) (hs : s.Inv) : t.Inv := by
  obtain ⟨hk, hw, hl, hm⟩ := hs
  have hk' : t.ParamsOk := by
    obtain ⟨hp, -, -⟩ := h.frame
    rwa [State.ParamsOk, hp]
  exact ⟨hk', h.wf hk hw, h.latchOk hw.left hl, h.memoryOk hm⟩

/-- Settles O49: the issued state and a refused word differ from `s` in no field that the invariant reads. -/
theorem stepKeepsInvariant : Obligations.StepKeepsInvariant := by
  intro s t hs h
  have hi : s.issued.Inv := hs
  obtain ⟨i, -, he⟩ | ⟨r, -, rfl⟩ := step_effect h
  · exact he.inv hi
  · exact hi

end Sys2Proof.Machine
end

section
/-! SUPPORT. FEED against the transition table of the five abstract parser states (R42, R43). -/

namespace Sys2Proof.Machine

/-! ## The columns of the table -/

theorem absInput_realtime {b : Byte} (h : isRealtime b = true) : absInput b = .rt := by
  simp [absInput, byteClass, h]

theorem absInput_system {b : Byte} (hr : isRealtime b = false) (hs : isStatus b = true) (hy : isSystem b = true) :
    absInput b = .sys := by
  simp [absInput, byteClass, hr, hs, hy]

theorem absInput_channelVoice {b : Byte} (hr : isRealtime b = false) (hs : isStatus b = true)
    (hy : isSystem b = false) : absInput b = if need b = 1 then .cv1 else .cv2 := by
  simp [absInput, byteClass, hr, hs, hy]

theorem absInput_data {b : Byte} (hr : isRealtime b = false) (hs : isStatus b = false) : absInput b = .data := by
  simp [absInput, byteClass, hr, hs]

/-- A real-time byte stays in every row; a status byte leads to the same entry from every row (R43). -/
theorem absNext_rt (a : AbsState) : absNext a .rt = (a, some .one) := by cases a <;> rfl
theorem absNext_sys (a : AbsState) : absNext a .sys = (.idle, none) := by cases a <;> rfl
theorem absNext_cv1 (a : AbsState) : absNext a .cv1 = (.run1, none) := by cases a <;> rfl
theorem absNext_cv2 (a : AbsState) : absNext a .cv2 = (.run2a, none) := by cases a <;> rfl

/-! ## The abstract state, by the fields that decide it -/

theorem Parser.absState_desync {p : Parser} (h : p.desynced = true) : p.absState = .desync := by
  simp [Parser.absState, h]

theorem Parser.absState_idle {p : Parser} (hd : p.desynced = false) (hr : p.runningStatus = 0x00#8) :
    p.absState = .idle := by
  simp [Parser.absState, hd, hr]

theorem Parser.absState_run1 {p : Parser} (hd : p.desynced = false) (hr : p.runningStatus ≠ 0x00#8)
    (hn : p.bytesNeeded = 1) : p.absState = .run1 := by
  simp [Parser.absState, hd, hr, hn]

theorem Parser.absState_run2 {p : Parser} (hd : p.desynced = false) (hr : p.runningStatus ≠ 0x00#8)
    (hn : p.bytesNeeded ≠ 1) : p.absState = if p.bytesHave then .run2b else .run2a := by
  simp [Parser.absState, hd, hr, hn]

/-! ## The rows, by what FEED does -/

/-- A channel-voice status byte: RUN1 or RUN2a by its need (R144). -/
theorem Parser.absState_startStatus {b : Byte} (h : isStatus b = true) (p : Parser) :
    (p.endDesync.startStatus b).absState = if need b = 1 then .run1 else .run2a := by
  have hd : (p.endDesync.startStatus b).desynced = false := rfl
  have hr : (p.endDesync.startStatus b).runningStatus ≠ 0x00#8 := ne_zero_of_isStatus h
  split
  · next hn => exact Parser.absState_run1 hd hr hn
  · next hn => exact Parser.absState_run2 hd hr hn

/-- The DATA column from the three running states: a data byte collected (R155 to R157). -/
theorem Parser.collect_absNext {p : Parser} (b : Byte) (hd : p.desynced = false) (hr : p.runningStatus ≠ 0x00#8)
    (hn : p.bytesNeeded ≠ 0) :
    absNext p.absState .data = ((p.collect b).1.absState, (p.collect b).2.map MidiMsg.len) := by
  obtain ⟨h1, hp⟩ | ⟨h2, hh, hp⟩ | ⟨h2, hh, hp⟩ | ⟨h0, -⟩ := p.collect_cases b
  · have ha : p.finishTwo.absState = .run1 := Parser.absState_run1 hd hr h1
    rw [hp, ha, Parser.absState_run1 hd hr h1]
    rfl
  · have hn' : p.bytesNeeded ≠ 1 := by simp [h2]
    have ha : p.finishThree.absState = .run2a := Parser.absState_run2 hd hr hn'
    rw [hp, ha, Parser.absState_run2 hd hr hn', hh]
    rfl
  · have hn' : p.bytesNeeded ≠ 1 := by simp [h2]
    have ha : (p.stash b).absState = .run2b := Parser.absState_run2 hd hr hn'
    rw [hp, ha, Parser.absState_run2 hd hr hn', hh]
    rfl
  · exact absurd h0 hn

/-- The adoption does not show in the abstract state. -/
theorem Parser.absState_adopt (p : Parser) : p.adopt.absState = p.absState := by
  simp [Parser.absState]

/-- A status in progress is the running status, so a parser of `WF` with any status has a running one, which needs
data bytes. -/
theorem Parser.WF.needs {p : Parser} (h : p.WF) (hst : ¬(p.currentStatus = 0x00#8 ∧ p.runningStatus = 0x00#8)) :
    p.runningStatus ≠ 0x00#8 ∧ p.bytesNeeded ≠ 0 := by
  obtain ⟨-, h3, h4, -, -, -⟩ := h
  have hr : p.runningStatus ≠ 0x00#8 := fun hr => hst ⟨h3.elim id fun hc => hc.trans hr, hr⟩
  exact ⟨hr, by rw [h4]; exact fun hn => hr ((need_eq_zero_iff _).mp hn)⟩

/-- A byte that is no status byte was not discarded by a desync, so the parser is in sync. -/
theorem Parser.desynced_eq_false {b : Byte} {p : Parser} (hg : (p.desynced && isData b) = false)
    (hs : isStatus b = false) : p.desynced = false := by
  have hb : isData b = true := (isData_iff b).mpr ((isStatus_eq_false_iff b).mp hs)
  simpa [hb] using hg

/-- FEED follows the table (R43). -/
theorem Parser.feed_absNext {p : Parser} (h : p.WF) (b : Byte) :
    absNext p.absState (absInput b) = ((p.feed b).1.absState, (p.feed b).2.map MidiMsg.len) := by
  obtain ⟨hr, hf⟩ | ⟨hr, hd, hb, hf⟩ | ⟨hr, -, hs, hy, hf⟩ | ⟨hr, -, hs, hy, hf⟩ | ⟨hr, hg, hs, -, hst, hf⟩ |
    ⟨hr, hg, hs, hst, hf⟩ := p.feed_cases b <;> rw [hf]
  · rw [absInput_realtime hr, absNext_rt]
    rfl
  · have hs : isStatus b = false := (isStatus_eq_false_iff b).mpr ((isData_iff b).mp hb)
    rw [absInput_data hr hs, Parser.absState_desync hd]
    rfl
  · rw [absInput_system hr hs hy, absNext_sys]
    rfl
  · rw [absInput_channelVoice hr hs hy, Parser.absState_startStatus hs]
    split
    · exact absNext_cv1 _
    · exact absNext_cv2 _
  · rw [absInput_data hr hs, Parser.absState_idle (Parser.desynced_eq_false hg hs) hst]
    rfl
  · obtain ⟨hrs, hn⟩ := h.needs hst
    rw [absInput_data hr hs, ← p.absState_adopt]
    exact Parser.collect_absNext b (by simpa using Parser.desynced_eq_false hg hs) (by simpa using hrs)
      (by simpa using hn)

/-- Settles O51. -/
theorem parserFollowsTransitionTable : Obligations.ParserFollowsTransitionTable :=
  ⟨fun _ b h => Parser.feed_absNext h b, fun _ => rfl⟩

end Sys2Proof.Machine
end

section
/-! SUPPORT. The ring as a first-in first-out queue (R26, R100, R104, R106): where the indices stand after `j` slots,
and what a push and a pop do to the unread bytes. -/

namespace Sys2Proof.Machine

/-! ## Index arithmetic -/

/-- `head` is `count` slots after `tail` (R26). -/
theorem Params.tail_add_count {p : Params} {t : Transport} (hh : t.head < p.ringSize) (ht : t.tail < p.ringSize) :
    (t.tail + p.count t) % p.ringSize = t.head := by
  rw [Params.count, Nat.mod_eq_of_lt ht, Nat.add_mod_mod]
  rw [show t.tail + (t.head + (p.ringSize - t.tail)) = t.head + p.ringSize by omega, Nat.add_mod_right,
    Nat.mod_eq_of_lt hh]

theorem Params.count_lt (p : Params) (t : Transport) : p.count t < p.ringSize := Nat.mod_lt _ p.ringSize_pos

/-- Two offsets below `N` that lead from one slot to the same slot are equal. -/
theorem offset_unique {n a i j : Nat} (hi : i < n) (hj : j < n) (h : (a + i) % n = (a + j) % n) : i = j :=
  Nat.ModEq.eq_of_lt_of_lt (Nat.ModEq.add_left_cancel' a h) hi hj

/-- The offset below `N` at which `head` stands is the count. -/
theorem Params.count_eq {p : Params} {t : Transport} (hh : t.head < p.ringSize) (ht : t.tail < p.ringSize) {j : Nat}
    (hj : j < p.ringSize) (h : (t.tail + j) % p.ringSize = t.head) : p.count t = j :=
  offset_unique (p.count_lt t) hj ((Params.tail_add_count hh ht).trans h.symm)

theorem Params.count_eq_zero_iff {p : Params} {t : Transport} (hh : t.head < p.ringSize) (ht : t.tail < p.ringSize) :
    p.count t = 0 ↔ t.head = t.tail := by
  constructor
  · intro hc
    simpa [hc, Nat.mod_eq_of_lt ht] using (Params.tail_add_count hh ht).symm
  · intro he
    exact Params.count_eq hh ht p.ringSize_pos (by simp [he, Nat.mod_eq_of_lt ht])

/-- The buffer holds at most `N - 1` bytes, and that many only when it is full (R104). -/
theorem Params.count_add_one_lt {p : Params} {t : Transport} (hh : t.head < p.ringSize) (ht : t.tail < p.ringSize)
    (hf : p.isFull t = false) : p.count t + 1 < p.ringSize := by
  refine lt_of_le_of_ne (p.count_lt t) fun hc => ?_
  have hfull : p.nextIndex t.head = t.tail := by
    calc p.nextIndex t.head = (t.tail + p.count t + 1) % p.ringSize := by
          rw [Params.nextIndex, ← Params.tail_add_count hh ht, Nat.mod_add_mod]
      _ = t.tail := by rw [Nat.add_assoc, hc, Nat.add_mod_right, Nat.mod_eq_of_lt ht]
  simp [(p.isFull_iff t).mpr hfull] at hf

theorem Params.count_normalPush {p : Params} {t : Transport} (hh : t.head < p.ringSize) (ht : t.tail < p.ringSize)
    (hf : p.isFull t = false) (b : Byte) : p.count (p.normalPush b t) = p.count t + 1 := by
  refine Params.count_eq (t := p.normalPush b t) (p.nextIndex_lt _) ht (Params.count_add_one_lt hh ht hf) ?_
  rw [Params.normalPush_tail, Params.normalPush_head, Params.nextIndex, ← Nat.add_assoc, ← Nat.mod_add_mod,
    Params.tail_add_count hh ht]

theorem Params.count_popAdvance {p : Params} {t : Transport} (hh : t.head < p.ringSize) (ht : t.tail < p.ringSize)
    (he : t.head ≠ t.tail) : p.count t = p.count (p.popAdvance t) + 1 := by
  have hpos : p.count t ≠ 0 := fun hc => he ((Params.count_eq_zero_iff hh ht).mp hc)
  have hlt := p.count_lt t
  have hc : p.count (p.popAdvance t) = p.count t - 1 := by
    refine Params.count_eq (t := p.popAdvance t) hh (p.nextIndex_lt _) (by omega) ?_
    rw [Params.popAdvance_tail, Params.popAdvance_head, Params.nextIndex, Nat.mod_add_mod,
      show t.tail + 1 + (p.count t - 1) = t.tail + p.count t by omega, Params.tail_add_count hh ht]
  omega

/-! ## The slots read -/

@[simp] theorem Params.readSlot_mod (p : Params) (t : Transport) (i : Nat) :
    p.readSlot t (i % p.ringSize) = p.readSlot t i := by simp [Params.readSlot]

/-- A push stores its byte in slot `head`. -/
theorem Params.readSlot_normalPush_head (p : Params) (b : Byte) (t : Transport) :
    p.readSlot (p.normalPush b t) t.head = b := by simp [Params.readSlot]

/-- A push leaves the unread slots as they are. -/
theorem Params.readSlot_normalPush_other (p : Params) (b : Byte) (t : Transport) {i : Nat}
    (h : i % p.ringSize ≠ t.head % p.ringSize) : p.readSlot (p.normalPush b t) i = p.readSlot t i :=
  Memory.read_write_other _ _ _ b h

/-! ## The queue -/

theorem Params.contents_eq_nil_iff {p : Params} {t : Transport} (hh : t.head < p.ringSize)
    (ht : t.tail < p.ringSize) : p.contents t = [] ↔ t.head = t.tail := by
  simp [Params.contents, Params.count_eq_zero_iff hh ht]

/-- A PUSH into a buffer that is not full appends its byte (R100). -/
theorem Params.contents_normalPush {p : Params} {t : Transport} (hh : t.head < p.ringSize) (ht : t.tail < p.ringSize)
    (hf : p.isFull t = false) (b : Byte) : p.contents (p.normalPush b t) = p.contents t ++ [b] := by
  have hhead := Params.tail_add_count hh ht
  have hold : ∀ j ∈ List.range (p.count t),
      p.readSlot (p.normalPush b t) (t.tail + j) = p.readSlot t (t.tail + j) := by
    intro j hj
    have hlt : j < p.count t := List.mem_range.mp hj
    refine p.readSlot_normalPush_other b t fun hm => hlt.ne ?_
    rw [Nat.mod_eq_of_lt hh, ← hhead] at hm
    exact offset_unique (hlt.trans (p.count_lt t)) (p.count_lt t) hm
  have hnew : p.readSlot (p.normalPush b t) (t.tail + p.count t) = b := by
    rw [← Params.readSlot_mod, hhead, Params.readSlot_normalPush_head]
  simp only [Params.contents, Params.count_normalPush hh ht hf, Params.normalPush_tail, List.range_succ,
    List.map_append, List.map_congr_left hold, List.map_singleton, hnew]

/-- The destructive recovery leaves its byte as the only one (R101). -/
theorem Params.contents_overflowPush {p : Params} (hk : 1 ≤ p.k) (b : Byte) (t : Transport) :
    p.contents (p.overflowPush b t) = [b] := by
  have hN := p.two_le_ringSize hk
  have hc : p.count (p.overflowPush b t) = 1 :=
    Params.count_eq (t := p.overflowPush b t) hN p.ringSize_pos hN (Nat.mod_eq_of_lt hN)
  simp [Params.contents, hc, Params.readSlot]

/-- A PUSH on the queue of unread bytes (R100). -/
theorem Params.contents_push {p : Params} {t : Transport} (hk : 1 ≤ p.k) (hh : t.head < p.ringSize)
    (ht : t.tail < p.ringSize) (b : Byte) :
    p.contents (p.push b t) = if (t.head + 1) % 2 ^ p.k = t.tail then [b] else p.contents t ++ [b] := by
  obtain ⟨hf, hp⟩ | ⟨hf, hp⟩ := p.push_cases b t
  · have hfull : (t.head + 1) % 2 ^ p.k = t.tail := (p.isFull_iff t).mp hf
    rw [hp, if_pos hfull, Params.contents_overflowPush hk]
  · have hnot : ¬(t.head + 1) % 2 ^ p.k = t.tail := fun h => by simp [(p.isFull_iff t).mpr h] at hf
    rw [hp, if_neg hnot, Params.contents_normalPush hh ht hf]

/-- A pop of a non-empty buffer takes the oldest byte (R106). -/
theorem Params.contents_pop {p : Params} {t : Transport} (hh : t.head < p.ringSize) (ht : t.tail < p.ringSize)
    (he : t.head ≠ t.tail) : p.contents t = p.popByte t :: p.contents (p.popAdvance t) := by
  have hread (j : Nat) : p.readSlot t (t.tail + (j + 1)) = p.readSlot (p.popAdvance t) ((p.popAdvance t).tail + j) := by
    simp [Params.readSlot, Params.nextIndex, Nat.add_assoc, Nat.add_comm 1 j]
  rw [Params.contents, Params.count_popAdvance hh ht he, List.range_succ_eq_map, List.map_cons, List.map_map]
  simp [Params.contents, Params.popByte, Function.comp_def, hread]

theorem respond_consumerResponse {s : State} (h : s.issuer = .consumer) (r : Response) :
    (s.respond r).consumerResponse = some r := by
  rw [State.respond_consumer r s h]

/-- Settles O53. -/
theorem ringRefinesQueue : Obligations.RingRefinesQueue := by
  rintro s t hk ⟨hh, ht⟩
  refine ⟨fun b hi h => ?_, fun hturn h => ?_⟩
  · cases (exec_push_producer hi b).symm.trans h
    exact Params.contents_push hk hh ht b
  · cases (exec_pop_turn hturn).symm.trans h
    split
    · next he =>
      have hnil := (Params.contents_eq_nil_iff hh ht).mpr ((Transport.isEmpty_iff _).mp he)
      exact .inl ⟨hnil, respond_consumerResponse hturn.left _, rfl⟩
    · next he =>
      have hpop := Params.contents_pop hh ht (mt (Transport.isEmpty_iff _).mpr he)
      exact .inr ⟨_, hpop, respond_consumerResponse hturn.left _⟩

end Sys2Proof.Machine
end

section
/-! SUPPORT. Who writes what: the two agents' own elements, the flags, the parameters and the output log (R33, R36,
R37, R38). -/

namespace Sys2Proof.Machine

/-! ## The producer -/

theorem respond_producer_consumerResponse {s : State} (h : s.issuer = .producer) (r : Response) :
    (s.respond r).consumerResponse = s.consumerResponse := by
  rw [State.respond_producer r s h]

/-- Settles O55: PUSH is the producer's one transaction, every other one is refused (R214). -/
theorem producerNeverTouchesConsumerState : Obligations.ProducerNeverTouchesConsumerState := by
  intro i s t hi h
  by_cases hc : i.context = .producer
  · cases i with
    | push b =>
      cases (exec_push_producer hi b).symm.trans h
      exact ⟨rfl, rfl, rfl, respond_producer_consumerResponse hi _, rfl,
        fun p => exec_push_producer (s := { s with parser := p }) hi b⟩
    | _ => cases hc
  · have hne : s.issuer ≠ i.context := fun he => hc (he.symm.trans hi)
    cases (exec_wrongContext hne).symm.trans h
    exact ⟨rfl, rfl, rfl, respond_producer_consumerResponse hi _, rfl,
      fun p => exec_wrongContext (s := { s with parser := p }) hne⟩

/-! ## The consumer -/

/-- Settles O56. -/
theorem consumerNeverWritesHeadOrSlots : Obligations.ConsumerNeverWritesHeadOrSlots := by
  intro i s t hi h
  obtain ht | ⟨hp, -⟩ | ⟨-, x, ht⟩ | ⟨-, -, ht⟩ := (exec_effect h).transport_cases
  · simp [ht]
  · exact absurd (hi.symm.trans hp) (by simp)
  · simp [ht]
  · simp [ht]

/-! ## The flags -/

theorem Effect.ovf_set {s t : State} {i : Instr} (h : Effect s i t) (h0 : s.transport.ovf = false)
    (h1 : t.transport.ovf = true) :
    (∃ b, i = .push b) ∧ (s.transport.head + 1) % 2 ^ s.params.k = s.transport.tail := by
  obtain ht | ⟨-, b, hb, ht⟩ | ⟨-, x, ht⟩ | ⟨-, -, ht⟩ := h.transport_cases <;> rw [ht] at h1
  · simp [h0] at h1
  · obtain ⟨hf, -⟩ | ⟨-, hp⟩ := s.params.push_cases b s.transport
    · exact ⟨⟨b, hb⟩, (s.params.isFull_iff _).mp hf⟩
    · simp [hp, h0] at h1
  · simp [h0] at h1
  · simp at h1

theorem Effect.ovf_cleared {s t : State} {i : Instr} (h : Effect s i t) (h1 : s.transport.ovf = true)
    (h0 : t.transport.ovf = false) : i = .takeOverflow ∨ (i = .step ∧ s.sequencer.phase = .check) := by
  obtain ht | ⟨-, b, -, ht⟩ | ⟨-, x, ht⟩ | ⟨-, hi, -⟩ := h.transport_cases
  · simp [ht, h1] at h0
  · obtain ⟨-, hp⟩ | ⟨-, hp⟩ := s.params.push_cases b s.transport <;> simp [ht, hp, h1] at h0
  · simp [ht, h1] at h0
  · exact hi

theorem Effect.desynced_set {s t : State} {i : Instr} (h : Effect s i t) (h0 : s.parser.desynced = false)
    (h1 : t.parser.desynced = true) : Desyncs i s := by
  obtain hp | ⟨b, -, hp⟩ | ⟨hd, -⟩ := h.parser_cases
  · simp [hp, h0] at h1
  · rw [hp] at h1
    obtain hf | ⟨hf, -⟩ := s.parser.feed_desynced b <;> simp [hf, h0] at h1
  · exact hd

theorem Effect.desynced_cleared {s t : State} {i : Instr} (h : Effect s i t) (h1 : s.parser.desynced = true)
    (h0 : t.parser.desynced = false) : ∃ b, Feeds i s b ∧ 0x80 ≤ b.toNat ∧ b.toNat ≤ 0xF7 := by
  obtain hp | ⟨b, hb, hp⟩ | ⟨-, hp⟩ := h.parser_cases <;> rw [hp] at h0
  · simp [h1] at h0
  · obtain hf | ⟨-, hr⟩ := s.parser.feed_desynced b
    · simp [hf, h1] at h0
    · exact ⟨b, hb, hr⟩
  · simp at h0

theorem Effect.bytesHave_set {s t : State} {i : Instr} (h : Effect s i t) (h0 : s.parser.bytesHave = false)
    (h1 : t.parser.bytesHave = true) : ∃ b, Feeds i s b ∧ b.toNat < 0x80 ∧ s.parser.bytesNeeded = 2 := by
  obtain hp | ⟨b, hb, hp⟩ | ⟨-, hp⟩ := h.parser_cases <;> rw [hp] at h1
  · simp [h0] at h1
  · obtain hf | ⟨hf, -⟩ | hn := s.parser.feed_bytesHave b
    · simp [hf, h0] at h1
    · simp [hf] at h1
    · exact ⟨b, hb, hn⟩
  · simp at h1

theorem Effect.bytesHave_cleared {s t : State} {i : Instr} (h : Effect s i t) (h1 : s.parser.bytesHave = true)
    (h0 : t.parser.bytesHave = false) :
    Desyncs i s ∨ ∃ b, Feeds i s b ∧ b.toNat ≤ 0xF7 ∧ (b.toNat < 0x80 → s.parser.bytesNeeded = 2) := by
  obtain hp | ⟨b, hb, hp⟩ | ⟨hd, -⟩ := h.parser_cases
  · simp [hp, h1] at h0
  · rw [hp] at h0
    obtain hf | ⟨-, hlo, hhi⟩ | ⟨hlt, hn⟩ := s.parser.feed_bytesHave b
    · simp [hf, h1] at h0
    · exact .inr ⟨b, hb, hhi, fun hlt => by omega⟩
    · exact .inr ⟨b, hb, by omega, fun _ => hn⟩
  · exact .inl hd

/-- Settles O57; `Feeds` and `Desyncs` are the statement's `feeds` and `desyncs`. -/
theorem flagsWrittenOnlyAsTabled : Obligations.FlagsWrittenOnlyAsTabled := by
  refine ⟨fun _ => ⟨rfl, rfl, rfl⟩, fun i s t h => ?_⟩
  have he := exec_effect h
  exact ⟨he.ovf_set, he.ovf_cleared, he.desynced_set, he.desynced_cleared, he.bytesHave_set, he.bytesHave_cleared⟩

/-! ## The parameters -/

/-- Settles O58. -/
theorem parametersNeverChange : Obligations.ParametersNeverChange := by
  refine ⟨fun s t h => ?_, fun _ _ _ h => (exec_effect h).frame⟩
  obtain ⟨i, -, he⟩ | ⟨r, -, rfl⟩ := step_effect h
  · obtain ⟨hp, hs, -⟩ := he.frame
    exact ⟨hp, hs⟩
  · exact ⟨rfl, rfl⟩

/-! ## The output log -/

/-- `R` leads from `s` to `t` with any log in place of `out`, and always appends the messages `l` to that log: it reads
nothing of `out` (R36). -/
def Appends (R : State → State → Prop) (s t : State) (l : List MidiMsg) : Prop :=
  ∀ o : List MidiMsg, R { s with out := o } { t with out := o ++ l }

/-- A transaction whose result keeps `out`, whatever it holds, appends nothing. -/
theorem Appends.nil {R : State → State → Prop} {s t : State} (h : ∀ o, R { s with out := o } { t with out := o }) :
    Appends R s t [] := by
  intro o
  rw [List.append_nil]
  exact h o

/-- The message a FEED emits is the only one. -/
theorem toList_length_le_one (m : Option MidiMsg) : m.toList.length ≤ 1 := by cases m <;> simp

/-- A transaction appends at most one message: the one its FEED emits (R131, R132). -/
theorem Effect.appends {s t : State} {i : Instr} (h : Effect s i t) :
    ∃ l : List MidiMsg, l.length ≤ 1 ∧ Appends (Effect · i ·) s t l := by
  have silent (ha : ∀ o, Effect { s with out := o } i { t with out := o }) :
      ∃ l : List MidiMsg, l.length ≤ 1 ∧ Appends (Effect · i ·) s t l := ⟨[], by simp, .nil ha⟩
  cases h with
  | wrongContext _ hi => exact silent fun o => .wrongContext (s := { s with out := o }) _ hi
  | splitPopInFlight _ hi hc hs hp => exact silent fun o => .splitPopInFlight (s := { s with out := o }) _ hi hc hs hp
  | push b hi => exact silent fun o => .push (s := { s with out := o }) b hi
  | popEmpty ht he => exact silent fun o => .popEmpty (s := { s with out := o }) ht he
  | popByte ht he => exact silent fun o => .popByte (s := { s with out := o }) ht he
  | takeOverflow ht => exact silent fun o => .takeOverflow (s := { s with out := o }) ht
  | forceDesync ht => exact silent fun o => .forceDesync (s := { s with out := o }) ht
  | observeEmpty hi hp he => exact silent fun o => .observeEmpty (s := { s with out := o }) hi hp he
  | latchPop hi hp he ha => exact silent fun o => .latchPop (s := { s with out := o }) hi hp he ha
  | checkOverflow hi hp => exact silent fun o => .checkOverflow (s := { s with out := o }) hi hp
  | feed b ht =>
    exact ⟨_, toList_length_le_one (s.parser.feed b).2, fun o => .feed (s := { s with out := o }) b ht⟩
  | popAndFeed hi hp he ha =>
    exact ⟨_, toList_length_le_one (s.parser.feed (s.params.popByte s.transport)).2,
      fun o => .popAndFeed (s := { s with out := o }) hi hp he ha⟩
  | commitPop hi hp =>
    exact ⟨_, toList_length_le_one (s.parser.feed s.sequencer.latchB).2,
      fun o => .commitPop (s := { s with out := o }) hi hp⟩

/-- A performed word, reserved or not, appends at most one message. -/
theorem performWord_appends {w : TransactionWord} {s t : State} (h : performWord w s = .next t) :
    ∃ l : List MidiMsg, l.length ≤ 1 ∧ Appends (fun u v => performWord w u = .next v) s t l := by
  cases hd : decode w with
  | ok i =>
    have hw (u : State) : performWord w u = exec i u := by simp [performWord, hd]
    obtain ⟨l, hl, ha⟩ := (exec_effect ((hw s).symm.trans h)).appends
    exact ⟨l, hl, fun o => (hw _).trans (exec_eq_next_iff.mpr (ha o))⟩
  | error r =>
    have hw (u : State) : performWord w u = .next (u.refuse r) := by simp [performWord, hd]
    cases (hw s).symm.trans h
    exact ⟨[], by simp, .nil fun o => hw _⟩

/-- Settles O59. -/
theorem outputLogOnlyGrows : Obligations.OutputLogOnlyGrows := by
  intro s t h
  obtain ⟨l, hl, ha⟩ := performWord_appends h
  have hstep : ∀ o, step { s with out := o } = .next { t with out := o ++ l } := ha
  have hself : t = { t with out := s.out ++ l } := by
    have := h.symm.trans (hstep s.out)
    injection this
  exact ⟨l, hl, congrArg State.out hself, hstep⟩

end Sys2Proof.Machine
end

section
/-! SUPPORT. The decoder against the encoder: every row of the table accepts exactly the words that the encoder writes
for the row's transactions, and no word spells two rows (R78, R82, R83). -/

namespace Sys2Proof

/-! ## The rows -/

/-- The bits above a field of `n` bits, tested under the mask of a row, fix the word up to its field. -/
theorem and_highMask_eq_iff {m n : Nat} (hi : BitVec m) (w : BitVec (m + n)) :
    w &&& (BitVec.allOnes m ++ 0#n) = hi ++ 0#n ↔ hi ++ w.extractLsb' 0 n = w := by
  have hsplit := BitVec.extractLsb'_append_extractLsb' (x := w)
  have hand : w &&& (BitVec.allOnes m ++ 0#n) = w.extractLsb' n m ++ 0#n := by
    conv_lhs => rw [← hsplit, BitVec.and_append, BitVec.and_allOnes, BitVec.and_zero]
  rw [hand, BitVec.append_left_inj]
  constructor
  · rintro rfl
    exact hsplit
  · intro h
    rw [← h, BitVec.extractLsb'_append_eq_left]

/-- The mask of a row without an operand tests the whole word. -/
theorem and_fullMask_eq_iff (w v : TransactionWord) : w &&& 0xFFF = v ↔ v = w := by
  rw [show (0xFFF : TransactionWord) = BitVec.allOnes 12 from rfl, BitVec.and_allOnes, eq_comm]

/-- A row accepts the words that the encoder writes for the transactions the row builds (R83). -/
theorem OpcodeRow.accepts_iff {r : OpcodeRow} (hr : r ∈ opcodeTable) (w : TransactionWord) :
    r.accepts w = true ↔ encode (r.build w) = w := by
  refine beq_iff_eq.trans ?_
  simp only [opcodeTable, List.mem_cons, List.not_mem_nil, or_false] at hr
  obtain rfl | rfl | rfl | rfl | rfl | rfl | rfl | rfl | rfl | rfl | rfl | rfl | rfl | rfl | rfl := hr
  · exact and_highMask_eq_iff (n := 8) 0x0#4 w
  · exact and_fullMask_eq_iff w 0x100
  · exact and_fullMask_eq_iff w 0x200
  · exact and_highMask_eq_iff (n := 7) 0b00110#5 w
  · exact and_highMask_eq_iff (n := 4) 0x38#8 w
  · exact and_highMask_eq_iff (n := 4) 0x39#8 w
  · exact and_highMask_eq_iff (n := 4) 0x3A#8 w
  · exact and_highMask_eq_iff (n := 4) 0x3B#8 w
  · exact and_highMask_eq_iff (n := 4) 0x3C#8 w
  · exact and_highMask_eq_iff (n := 4) 0x3D#8 w
  · exact and_highMask_eq_iff (n := 4) 0x3E#8 w
  · exact and_highMask_eq_iff (n := 3) 0b001111110#9 w
  · exact and_highMask_eq_iff (n := 3) 0b001111111#9 w
  · exact and_fullMask_eq_iff w 0x400
  · exact and_fullMask_eq_iff w 0x500

/-- Every transaction is the one that its row builds from its encoded word. -/
theorem exists_row_build_encode (i : Instr) : ∃ r ∈ opcodeTable, r.build (encode i) = i := by
  cases i with
  | pop | takeOverflow | forceDesync | step => simp [opcodeTable]
  | _ => simpa [opcodeTable, encode, lowField] using BitVec.extractLsb'_append_eq_right

/-- Two rows of the table differ in a bit that both of them test (R83). -/
theorem opcodeTable_disjoint : opcodeTable.Pairwise (fun r q => r.pattern &&& q.mask ≠ q.pattern &&& r.mask) := by
  decide

/-- A word lies in two rows only when they agree in every bit that both of them test. -/
theorem OpcodeRow.agree_of_accepts {r q : OpcodeRow} {w : TransactionWord} (hr : r.accepts w = true)
    (hq : q.accepts w = true) : r.pattern &&& q.mask = q.pattern &&& r.mask := by
  rw [← beq_iff_eq.mp hr, ← beq_iff_eq.mp hq, BitVec.and_assoc, BitVec.and_assoc, BitVec.and_comm r.mask]

/-- At most one row accepts a word. -/
theorem filter_accepts_eq_singleton {r : OpcodeRow} (hr : r ∈ opcodeTable) {w : TransactionWord}
    (hw : r.accepts w = true) : opcodeTable.filter (·.accepts w) = [r] := by
  have hpair : (opcodeTable.filter (·.accepts w)).Pairwise (fun _ _ => False) :=
    List.pairwise_filter.mpr (opcodeTable_disjoint.imp fun hne hq hq' => hne (OpcodeRow.agree_of_accepts hq hq'))
  have hmem : r ∈ opcodeTable.filter (·.accepts w) := List.mem_filter.mpr ⟨hr, hw⟩
  generalize opcodeTable.filter (·.accepts w) = rows at hpair hmem
  match rows, hpair, hmem with
  | [q], _, hmem => rw [List.mem_singleton.mp hmem]
  | _ :: q :: _, hpair, _ => exact ((List.pairwise_cons.mp hpair).1 q List.mem_cons_self).elim

/-! ## The decoder -/

/-- The decoder reads the first of the rows that accept the word; there is at most one. -/
theorem decode_of_accepts {r : OpcodeRow} (hr : r ∈ opcodeTable) {w : TransactionWord} (hw : r.accepts w = true) :
    decode w = .ok (r.build w) := by
  rw [decode, ← List.head?_filter, filter_accepts_eq_singleton hr hw]
  rfl

theorem decode_of_no_row {w : TransactionWord} (h : opcodeTable.filter (·.accepts w) = []) :
    decode w = .error .reservedWord := by
  rw [decode, ← List.head?_filter, h]
  rfl

/-- What the decoder answers was built by a row that accepts the word. -/
theorem exists_row_of_decode {w : TransactionWord} {i : Instr} (h : decode w = .ok i) :
    ∃ r ∈ opcodeTable, r.accepts w = true ∧ r.build w = i := by
  cases hrows : opcodeTable.filter (·.accepts w) with
  | nil => cases (decode_of_no_row hrows).symm.trans h
  | cons r rest =>
    have hmem : r ∈ opcodeTable.filter (·.accepts w) := by simp [hrows]
    obtain ⟨hr, hw⟩ := List.mem_filter.mp hmem
    exact ⟨r, hr, hw, Except.ok.inj ((decode_of_accepts hr hw).symm.trans h)⟩

/-- A transaction's word is accepted by the row that builds the transaction from it. -/
theorem exists_row_accepts_encode (i : Instr) :
    ∃ r ∈ opcodeTable, r.accepts (encode i) = true ∧ r.build (encode i) = i := by
  obtain ⟨r, hr, hb⟩ := exists_row_build_encode i
  exact ⟨r, hr, (OpcodeRow.accepts_iff hr _).mpr (by rw [hb]), hb⟩

/-- Settles O1: the row that builds the transaction from its word is the one that the decoder finds. -/
theorem decodeEncodeRoundTrip : Obligations.DecodeEncodeRoundTrip := by
  intro i
  obtain ⟨r, hr, hw, hb⟩ := exists_row_accepts_encode i
  rw [decode_of_accepts hr hw, hb]

/-- Settles O2: a row accepts only the words that the encoder writes for what the row builds. -/
theorem encodeDecodeRoundTrip : Obligations.EncodeDecodeRoundTrip := by
  intro w i h
  obtain ⟨r, hr, hw, rfl⟩ := exists_row_of_decode h
  exact (OpcodeRow.accepts_iff hr w).mp hw

/-! ## The reserved words -/

/-- Every word is an `op` followed by a byte (R77). -/
theorem exists_op_arg (w : TransactionWord) : ∃ (op : BitVec 4) (arg : Byte), w = op ++ arg :=
  ⟨w.extractLsb' 8 4, w.extractLsb' 0 8, (BitVec.extractLsb'_append_extractLsb' (w := 4) (len := 8)).symm⟩

/-- The reserved words, by `op` and `arg` (R77, R82). -/
theorem wordReserved_append (op : BitVec 4) (arg : Byte) :
    wordReserved (op ++ arg) = (decide (6 ≤ op.toNat) ||
      ((op.toNat == 1 || op.toNat == 2 || op.toNat == 4 || op.toNat == 5) && arg.toNat != 0)) := by
  have hlt : arg.toNat < 256 := arg.isLt
  have hnat : (op ++ arg).toNat = op.toNat * 256 + arg.toNat := by
    rw [BitVec.toNat_append, ← Nat.shiftLeft_add_eq_or_of_lt hlt, Nat.shiftLeft_eq]
  have hop : (op ++ arg).toNat / 256 = op.toNat := by omega
  have harg : (op ++ arg).toNat % 256 = arg.toNat := by omega
  simp only [wordReserved, hop, harg]

/-- The FEED word of a byte is the word of the row that the byte selects (R70, R78). -/
theorem encode_feedInstr (b : Byte) : encode (feedInstr b) = 0x3#4 ++ b := by revert b; decide

/-- An encoded word is not reserved. -/
theorem wordReserved_encode (i : Instr) : wordReserved (encode i) = false := by
  by_cases hf : Machine.isFeedRow i = true
  · rw [← Machine.feedInstr_argByte i hf, encode_feedInstr]
    exact wordReserved_append 0x3 _
  · cases i with
    | push b => exact wordReserved_append 0x0 b
    | pop | takeOverflow | forceDesync | step => rfl
    | _ => exact absurd rfl hf

/-- A word that is not reserved is the encoded word of a transaction. -/
theorem exists_encode_of_not_reserved {w : TransactionWord} (h : wordReserved w = false) : ∃ i, encode i = w := by
  obtain ⟨op, arg, rfl⟩ := exists_op_arg w
  rw [wordReserved_append] at h
  have harg (hv : op = 1 ∨ op = 2 ∨ op = 4 ∨ op = 5) : arg = 0 := by
    obtain rfl | rfl | rfl | rfl := hv <;> simpa [← BitVec.toNat_inj] using h
  have hlow : op.toNat < 6 := by
    by_contra hge
    simp [Nat.le_of_not_lt hge] at h
  have hop : op = 0 ∨ op = 1 ∨ op = 2 ∨ op = 3 ∨ op = 4 ∨ op = 5 := by
    clear h harg
    revert op
    decide
  obtain rfl | rfl | rfl | rfl | rfl | rfl := hop
  · exact ⟨.push arg, rfl⟩
  · exact ⟨.pop, by rw [harg (by simp)]; rfl⟩
  · exact ⟨.takeOverflow, by rw [harg (by simp)]; rfl⟩
  · exact ⟨feedInstr arg, encode_feedInstr arg⟩
  · exact ⟨.forceDesync, by rw [harg (by simp)]; rfl⟩
  · exact ⟨.step, by rw [harg (by simp)]; rfl⟩

/-- A reserved word is accepted by no row (R82). -/
theorem filter_accepts_eq_nil {w : TransactionWord} (h : wordReserved w = true) :
    opcodeTable.filter (·.accepts w) = [] := by
  refine List.filter_eq_nil_iff.mpr fun r hr hw => ?_
  rw [← (OpcodeRow.accepts_iff hr w).mp hw, wordReserved_encode] at h
  cases h

theorem decode_reserved {w : TransactionWord} (h : wordReserved w = true) : decode w = .error .reservedWord :=
  decode_of_no_row (filter_accepts_eq_nil h)

theorem decode_feedWord (b : Byte) : decode (0x3#4 ++ b) = .ok (feedInstr b) := by
  rw [← encode_feedInstr]
  exact decodeEncodeRoundTrip _

/-- Settles O3: a word that is not reserved is an encoded one, so a row accepts it, and no second row does. -/
theorem decoderMatchesOneRowOrReserves : Obligations.DecoderMatchesOneRowOrReserves := by
  refine ⟨fun w hw => ?_, fun w hw => ⟨by rw [filter_accepts_eq_nil hw, List.length_nil], decode_reserved hw⟩,
    fun b => ⟨feedInstr b, decode_feedWord b, Machine.argByte_feedInstr b⟩⟩
  obtain ⟨i, rfl⟩ := exists_encode_of_not_reserved hw
  obtain ⟨r, hr, ha, -⟩ := exists_row_accepts_encode i
  exact ⟨by rw [filter_accepts_eq_singleton hr ha, List.length_singleton], i, decodeEncodeRoundTrip i⟩

/-! ## Sample words and byte classes -/

/-- Settles O4: a sample word that decodes is the encoded word of its transaction, the others are reserved. -/
theorem sampleWordsDecode : Obligations.SampleWordsDecode :=
  ⟨decodeEncodeRoundTrip (.push 0x90), decodeEncodeRoundTrip (.push 0xFF), decodeEncodeRoundTrip .pop,
    decodeEncodeRoundTrip .takeOverflow, decodeEncodeRoundTrip (.feedData 0x7F),
    decodeEncodeRoundTrip (.feedNoteOff 0xF), decodeEncodeRoundTrip (.feedNoteOn 0xF),
    decodeEncodeRoundTrip (.feedPolyPressure 0), decodeEncodeRoundTrip (.feedControlChange 0xF),
    decodeEncodeRoundTrip (.feedProgramChange 0), decodeEncodeRoundTrip (.feedChannelPressure 0xF),
    decodeEncodeRoundTrip (.feedPitchBend 0xF), decodeEncodeRoundTrip (.feedSystem 7),
    decodeEncodeRoundTrip (.feedRealtime 0), decodeEncodeRoundTrip .forceDesync, decodeEncodeRoundTrip .step,
    decode_reserved rfl, decode_reserved rfl, decode_reserved rfl, decode_reserved rfl⟩

/-- Settles O5: the tests of R131, in their order, are the bounds of R70. -/
theorem byteClassByValue : Obligations.ByteClassByValue := by
  intro b
  refine ⟨?_, decode_feedWord b⟩
  by_cases hdata : b.toNat < 0x80
  · have hr : Machine.isRealtime b = false := (Machine.isRealtime_eq_false_iff b).mpr (by omega)
    simp [Machine.byteClass, hr, (Machine.isStatus_eq_false_iff b).mpr hdata, hdata]
  · have hs : Machine.isStatus b = true := (Machine.isStatus_iff b).mpr (by omega)
    simp only [Machine.byteClass, hs, hdata, Machine.isRealtime, Machine.isSystem, decide_eq_true_eq, if_true, if_false]
    grind

/-! ## The word performed next -/

namespace Machine

/-- A reserved word is refused as such (R82, R204). -/
theorem performWord_reserved {w : TransactionWord} (h : wordReserved w = true) (s : State) :
    performWord w s = .next (s.refuse .reservedWord) := by
  simp only [performWord, decode_reserved h]

theorem performWord_encode (i : Instr) (s : State) : performWord (encode i) s = exec i s := by
  simp only [performWord, decodeEncodeRoundTrip i]

/-- With a word at the head of the schedule, the step performs it for its agent (R188). -/
theorem step_cons {s : State} {i : Issue} {rest : List Issue} (h : s.schedule = i :: rest) :
    step s = performWord i.word { s with schedule := rest, issuer := i.agent } := by
  obtain ⟨hnext, hissued⟩ := nextIssue_cons s i rest h
  rw [step, hnext, hissued]

/-- Settles O7. -/
theorem stepRefusesReservedWord : Obligations.StepRefusesReservedWord := by
  intro s w rest hw
  refine ⟨fun h => ?_, fun h => ?_⟩
  · rw [step_cons h, performWord_reserved hw, State.refuse, State.respond_producer _ _ rfl]
  · rw [step_cons h, performWord_reserved hw, State.refuse, State.respond_consumer _ _ rfl]

/-- The number of a word, read back in at least 12 bits, is the word (R77, log 1). -/
theorem wordOfNumber_toNat {nbits : Nat} (h : 12 ≤ nbits) (w : TransactionWord) :
    wordOfNumber nbits w.toNat = some w := by
  have hlt : w.toNat < 4096 := w.isLt
  have hmod : w.toNat % 2 ^ nbits = w.toNat :=
    Nat.mod_eq_of_lt (w.isLt.trans_le (Nat.pow_le_pow_right two_pos h))
  simp [wordOfNumber, hmod, hlt]

theorem wordAgent_encode (i : Instr) : wordAgent (encode i) = i.context := by
  simp only [wordAgent, decodeEncodeRoundTrip i]

/-- Settles O9. -/
theorem fetchWordRunsNext : Obligations.FetchWordRunsNext := by
  intro i s
  have hplaced : s.withFetchWord 16 (encode i).toNat =
      { s with schedule := { agent := i.context, word := encode i } :: s.schedule } := by
    simp only [State.withFetchWord, State.placeWord, wordOfNumber_toNat (by norm_num : 12 ≤ 16), wordAgent_encode]
  rw [hplaced, step_cons rfl, performWord_encode]

end Machine

end Sys2Proof
end

section
/-! SUPPORT. Streams of whole channel-voice messages: what a status byte and its data bytes emit, and that the status
may be left out while it is running (R81, R144 to R157). -/

namespace Sys2Proof.Machine

/-! ## One byte -/

/-- A channel-voice status byte starts its message in every parser, and ends a desync (R142, R144). -/
theorem Parser.feed_statusByte {k : BitVec 4} (hk : 0x8 ≤ k.toNat ∧ k.toNat ≤ 0xE) (c : BitVec 4) (p : Parser) :
    p.feed (statusByte k c) = (p.endDesync.startStatus (statusByte k c), none) := by
  obtain ⟨hr, hd, hs, hy⟩ := statusByte_class k c hk
  simp [Parser.feed, Parser.statusCase, hr, hd, hs, hy]

/-- A data byte is collected when the parser is in sync and has a running status (R152, R154). -/
theorem Parser.feed_dataByte {p : Parser} (hd : p.desynced = false) (hr : p.runningStatus ≠ 0x00#8) (v : BitVec 7) :
    p.feed (dataByte v) = p.adopt.collect (dataByte v) := by
  obtain ⟨hreal, -, hs⟩ := dataByte_class v
  simp [Parser.feed, Parser.dataCase, hreal, hs, hd, hr]

/-- A status that needs data bytes is a status. -/
theorem ne_zero_of_need {x : Byte} (h : need x ≠ 0) : x ≠ 0x00#8 := mt (need_eq_zero_iff x).mpr h

/-! ## A parser between two messages of one status -/

/-- Status `x` is running, no data byte of the next message has come, and the status may have been repeated. -/
structure Parser.Running (x : Byte) (p : Parser) : Prop where
  desynced : p.desynced = false
  running : p.runningStatus = x
  current : p.currentStatus = 0x00#8 ∨ p.currentStatus = x
  needed : p.bytesNeeded = need x
  fresh : p.bytesHave = false

theorem Parser.running_startStatus (x : Byte) (p : Parser) : (p.endDesync.startStatus x).Running x :=
  ⟨rfl, rfl, .inr rfl, rfl, rfl⟩

/-- The adoption leaves no trace of whether the status was repeated (R154). -/
theorem Parser.Running.adopt {x : Byte} {p : Parser} (h : p.Running x) : p.adopt = { p with currentStatus := x } := by
  obtain ⟨hc, ha⟩ | ⟨hc, ha⟩ := p.adopt_cases
  · rw [ha, h.running]
  · rw [ha, ← h.current.resolve_left hc]

/-- A repeated status changes at most `current_status`, to what the adoption makes of it. -/
theorem Parser.Running.startStatus {x : Byte} {p : Parser} (h : p.Running x) :
    p.endDesync.startStatus x = { p with currentStatus := x } := by
  simp [Parser.startStatus, Parser.endDesync, h.needed, h.desynced, h.running, h.fresh]

theorem Parser.Running.feed_dataByte {x : Byte} {p : Parser} (h : p.Running x) (hx : x ≠ 0x00#8) (v : BitVec 7) :
    p.feed (dataByte v) = ({ p with currentStatus := x } : Parser).collect (dataByte v) := by
  rw [Parser.feed_dataByte h.desynced (h.running.trans_ne hx), h.adopt]

/-- Two data bytes of a two-byte status emit its message (R156, R157). -/
theorem Parser.Running.feedAll_pair {x : Byte} {p : Parser} (h : p.Running x) (hx : need x = 2) (v w : BitVec 7) :
    p.feedAll [dataByte v, dataByte w] =
      ({ p with currentStatus := 0x00#8, pendingD1 := dataByte v }, [threeByteMsg x (dataByte v) (dataByte w)]) := by
  have hx0 : x ≠ 0x00#8 := ne_zero_of_need (by simp [hx])
  have hfirst : p.feed (dataByte v) = (({ p with currentStatus := x } : Parser).stash (dataByte v), none) := by
    simp [h.feed_dataByte hx0, Parser.collect, h.needed, hx, h.fresh]
  have hsecond : (({ p with currentStatus := x } : Parser).stash (dataByte v)).feed (dataByte w) =
      ({ p with currentStatus := 0x00#8, pendingD1 := dataByte v },
        some (threeByteMsg x (dataByte v) (dataByte w))) := by
    rw [Parser.feed_dataByte (by simp [h.desynced]) (by simp [h.running, hx0])]
    simp [Parser.adopt, Parser.collect, Parser.finishThree, Parser.stash, hx0, h.needed, hx, h.fresh]
  simp [hfirst, hsecond]

/-- The data byte of a one-byte status emits its message (R155). -/
theorem Parser.Running.feedAll_single {x : Byte} {p : Parser} (h : p.Running x) (hx : need x = 1) (v : BitVec 7) :
    p.feedAll [dataByte v] = ({ p with currentStatus := 0x00#8 }, [twoByteMsg x (dataByte v)]) := by
  have hfeed : p.feed (dataByte v) = ({ p with currentStatus := 0x00#8 }, some (twoByteMsg x (dataByte v))) := by
    simp [h.feed_dataByte (ne_zero_of_need (by simp [hx])), Parser.collect, Parser.finishTwo, h.needed, hx]
  simp [hfeed]

/-! ## The kinds -/

/-- The kinds with two data bytes (R72). -/
theorem two_byte_kind {k : BitVec 4} (hk : k ∈ [0x8#4, 0x9#4, 0xA#4, 0xB#4, 0xE#4]) (c : BitVec 4) :
    (0x8 ≤ k.toNat ∧ k.toNat ≤ 0xE) ∧ need (statusByte k c) = 2 := by
  revert k c
  decide

/-- The kinds with one data byte (R72). -/
theorem one_byte_kind {k : BitVec 4} (hk : k ∈ [0xC#4, 0xD#4]) (c : BitVec 4) :
    (0x8 ≤ k.toNat ∧ k.toNat ≤ 0xE) ∧ need (statusByte k c) = 1 := by
  revert k c
  decide

/-- After its status byte the status is running, whatever came before. -/
theorem Parser.feedAll_statusByte_cons {k : BitVec 4} (hk : 0x8 ≤ k.toNat ∧ k.toNat ≤ 0xE) (c : BitVec 4)
    (bs : List Byte) (p : Parser) :
    p.feedAll (statusByte k c :: bs) = (p.endDesync.startStatus (statusByte k c)).feedAll bs := by
  simp [Parser.feed_statusByte hk]

/-- Settles O32: a status byte leads from every parser to one where that status is running. -/
theorem channelVoiceMessagesComplete : Obligations.ChannelVoiceMessagesComplete := by
  intro p k c v w
  have hrun := p.running_startStatus (statusByte k c)
  refine ⟨fun hk => ?_, fun hk => ?_⟩
  · obtain ⟨hrange, hneed⟩ := two_byte_kind hk c
    have hall := (Parser.feedAll_statusByte_cons hrange c _ p).trans (hrun.feedAll_pair hneed v w)
    exact ⟨congrArg Prod.snd hall, congrArg (fun r => r.1.runningStatus) hall⟩
  · obtain ⟨hrange, hneed⟩ := one_byte_kind hk c
    have hall := (Parser.feedAll_statusByte_cons hrange c _ p).trans (hrun.feedAll_single hneed v)
    exact ⟨congrArg Prod.snd hall, congrArg (fun r => r.1.runningStatus) hall⟩

/-! ## Running status -/

/-- `g` is all the data bytes of one message of status `x`: fed while `x` is running it has the same effect with and
without the status before it, and `x` is running after it. -/
def Completes (x : Byte) (g : List Byte) : Prop :=
  ∀ p : Parser, p.Running x → p.feedAll (x :: g) = p.feedAll g ∧ (p.feedAll g).1.Running x

/-- While `x` is running, `x` may stand before each message or not. -/
theorem Parser.Running.feedAll_flatMap_cons {x : Byte} {p : Parser} (h : p.Running x) {gs : List (List Byte)}
    (hgs : ∀ g ∈ gs, Completes x g) : p.feedAll (gs.flatMap (x :: ·)) = p.feedAll gs.flatten := by
  induction gs generalizing p with
  | nil => rfl
  | cons g gs ih =>
    obtain ⟨hg, hrest⟩ := List.forall_mem_cons.mp hgs
    obtain ⟨hfeed, hrun⟩ := hg p h
    rw [List.flatMap_cons, List.flatten_cons, Parser.feedAll_append, Parser.feedAll_append, hfeed, ih hrun hrest]

/-- One status byte before messages of that status stands for one before each (R81). -/
theorem Parser.feedAll_runningStatus {k : BitVec 4} (hk : 0x8 ≤ k.toNat ∧ k.toNat ≤ 0xE) (c : BitVec 4)
    {gs : List (List Byte)} (hne : gs ≠ []) (hgs : ∀ g ∈ gs, Completes (statusByte k c) g) (p : Parser) :
    p.feedAll (statusByte k c :: gs.flatten) = p.feedAll (gs.flatMap (statusByte k c :: ·)) := by
  obtain ⟨g, rest, rfl⟩ := List.exists_cons_of_ne_nil hne
  obtain ⟨hg, hrest⟩ := List.forall_mem_cons.mp hgs
  obtain ⟨-, hrun⟩ := hg _ (p.running_startStatus _)
  rw [List.flatMap_cons, List.cons_append, Parser.feedAll_statusByte_cons hk, Parser.feedAll_statusByte_cons hk,
    List.flatten_cons, Parser.feedAll_append, Parser.feedAll_append, hrun.feedAll_flatMap_cons hrest]

theorem completes_pair {k : BitVec 4} (hk : k ∈ [0x8#4, 0x9#4, 0xA#4, 0xB#4, 0xE#4]) (c : BitVec 4)
    (v w : BitVec 7) : Completes (statusByte k c) [dataByte v, dataByte w] := by
  obtain ⟨hrange, hneed⟩ := two_byte_kind hk c
  intro p h
  have hrun := p.running_startStatus (statusByte k c)
  rw [Parser.feedAll_statusByte_cons hrange, hrun.feedAll_pair hneed, h.feedAll_pair hneed, h.startStatus]
  exact ⟨rfl, h.desynced, h.running, .inl rfl, h.needed, h.fresh⟩

theorem completes_single {k : BitVec 4} (hk : k ∈ [0xC#4, 0xD#4]) (c : BitVec 4) (v : BitVec 7) :
    Completes (statusByte k c) [dataByte v] := by
  obtain ⟨hrange, hneed⟩ := one_byte_kind hk c
  intro p h
  have hrun := p.running_startStatus (statusByte k c)
  rw [Parser.feedAll_statusByte_cons hrange, hrun.feedAll_single hneed, h.feedAll_single hneed, h.startStatus]
  exact ⟨rfl, h.desynced, h.running, .inl rfl, h.needed, h.fresh⟩

/-- Settles O33: the stream is cut into the data bytes of its messages. -/
theorem runningStatusExpands : Obligations.RunningStatusExpands := by
  intro p k c
  refine ⟨fun hk ds hne => ?_, fun hk ds hne => ?_⟩
  · have hgs : ∀ g ∈ ds.map (fun d => [dataByte d.1, dataByte d.2]), Completes (statusByte k c) g :=
      List.forall_mem_map.mpr fun d _ => completes_pair hk c d.1 d.2
    have h := Parser.feedAll_runningStatus (two_byte_kind hk c).1 c (List.map_eq_nil_iff.not.mpr hne) hgs p
    rwa [List.flatMap_map, ← List.flatMap_def] at h
  · have hgs : ∀ g ∈ ds.map (fun d => [dataByte d]), Completes (statusByte k c) g :=
      List.forall_mem_map.mpr fun d _ => completes_single hk c d
    have h := Parser.feedAll_runningStatus (one_byte_kind hk c).1 c (List.map_eq_nil_iff.not.mpr hne) hgs p
    rwa [List.flatMap_map, ← List.flatMap_def, ← List.map_eq_flatMap] at h

end Sys2Proof.Machine
end

section
/-! SUPPORT. The consumer's loop without a push, and `drain` with pushes between its STEPs: how many STEPs lead to a
settled state (R85, R181 to R185, R193). -/

namespace Sys2Proof.Machine

/-! ## One STEP -/

/-- The consumer's STEP as a trace line performs it. -/
def State.loopOnce (s : State) : State := s.perform (plainLine .step).issue

theorem State.loopOnce_eq (s : State) :
    s.loopOnce = ({ s with issuer := .consumer } : State).loopStep.respond .nothing := s.perform_step

/-- STEP writes neither the parameters nor the schedule (R38). -/
theorem State.loopOnce_frame (s : State) : s.loopOnce.params = s.params ∧ s.loopOnce.schedule = s.schedule := by
  obtain ⟨hp, hs, -⟩ := (exec_effect (exec_step_consumer (s := { s with issuer := .consumer }) rfl)).frame
  rw [State.loopOnce_eq]
  exact ⟨hp, hs⟩

@[simp] theorem State.loopOnce_params (s : State) : s.loopOnce.params = s.params := s.loopOnce_frame.1

@[simp] theorem State.loopOnce_schedule (s : State) : s.loopOnce.schedule = s.schedule := s.loopOnce_frame.2

/-- The empty observation (R183). -/
theorem State.loopOnce_empty {s : State} (hp : s.sequencer.phase = .poll)
    (he : s.transport.head = s.transport.tail) :
    s.loopOnce.sequencer.phase = .check ∧ s.loopOnce.transport = s.transport := by
  simp [State.loopOnce_eq, State.loopStep, Transport.isEmpty, hp, he]

/-- The pop of a byte under `ATOMIC_POP` (R182). -/
theorem State.loopOnce_pop {s : State} (hp : s.sequencer.phase = .poll)
    (he : s.transport.head ≠ s.transport.tail) (ha : s.params.atomicPop = true) :
    s.loopOnce.sequencer.phase = .poll ∧ s.loopOnce.transport = s.params.popAdvance s.transport := by
  simp [State.loopOnce_eq, State.loopStep, Transport.isEmpty, hp, he, ha]

/-- The first half of a split pop (R184). -/
theorem State.loopOnce_latch {s : State} (hp : s.sequencer.phase = .poll)
    (he : s.transport.head ≠ s.transport.tail) (ha : s.params.atomicPop = false) :
    s.loopOnce.sequencer.phase = .commit ∧ s.loopOnce.sequencer.latchT = s.transport.tail ∧
      s.loopOnce.transport = s.transport := by
  simp [State.loopOnce_eq, State.loopStep, Transport.isEmpty, hp, he, ha]

/-- The second half of a split pop: `tail` moves past the re-read index or past the latched one (R184). -/
theorem State.loopOnce_commit {s : State} (hp : s.sequencer.phase = .commit) :
    s.loopOnce.sequencer.phase = .poll ∧ ∃ i, (i = s.transport.tail ∨ i = s.sequencer.latchT) ∧
      s.loopOnce.transport = { s.transport with tail := s.params.nextIndex i } := by
  simp only [State.loopOnce_eq, State.loopStep, hp]
  exact ⟨rfl, _, ite_eq_or_eq _ _ _, rfl⟩

/-- `Check` takes the flag (R185). -/
theorem State.loopOnce_check {s : State} (hp : s.sequencer.phase = .check) :
    s.loopOnce.sequencer.phase = .poll ∧ s.loopOnce.transport = s.transport.clearOverflow := by
  simp [State.loopOnce_eq, State.loopStep, hp]

/-- Outside `Poll` one STEP leads to `Poll`, with legal indices. -/
theorem State.loopOnce_polls {s : State} (hp : s.sequencer.phase ≠ .poll) (hw : WF1 s) :
    s.loopOnce.sequencer.phase = .poll ∧ WF1 s.loopOnce := by
  obtain ⟨hh, ht⟩ := hw
  cases hphase : s.sequencer.phase with
  | poll => exact absurd hphase hp
  | check =>
    obtain ⟨hpoll, htr⟩ := State.loopOnce_check hphase
    rw [WF1, State.loopOnce_params, htr]
    exact ⟨hpoll, hh, ht⟩
  | commit =>
    obtain ⟨hpoll, i, -, htr⟩ := State.loopOnce_commit hphase
    rw [WF1, State.loopOnce_params, htr]
    exact ⟨hpoll, hh, s.params.nextIndex_lt i⟩

/-- A split pop with no push between its halves pops the byte that was latched (R184). -/
theorem State.loopOnce_commit_latched {s : State} (hp : s.sequencer.phase = .commit)
    (hl : s.sequencer.latchT = s.transport.tail) :
    s.loopOnce.sequencer.phase = .poll ∧ s.loopOnce.transport = s.params.popAdvance s.transport := by
  obtain ⟨hpoll, i, hi, htr⟩ := State.loopOnce_commit hp
  obtain rfl : i = s.transport.tail := hi.elim id fun h => h.trans hl
  exact ⟨hpoll, htr⟩

/-! ## Runs of STEPs -/

/-- With nothing scheduled the block steps through the loop (log 3). -/
theorem step_eq_loopOnce {s : State} (h : s.schedule = []) : step s = .next s.loopOnce := by
  obtain ⟨hnext, hissued⟩ := nextIssue_nil s h
  rw [step, hnext, hissued, State.loopOnce_eq]
  exact (performWord_encode .step _).trans (exec_step_consumer rfl)

theorem run_succ {s : State} (h : s.schedule = []) (n : Nat) :
    Host.Core.run core (n + 1) s = Host.Core.run core n s.loopOnce := by
  have hstep : core.step s = .next s.loopOnce := step_eq_loopOnce h
  simp only [Host.Core.run, hstep]

/-- A run of the loop performs as many STEP lines. -/
theorem run_eq_performLines {s : State} (h : s.schedule = []) (n : Nat) :
    Host.Core.run core n s = .next (s.performLines (List.replicate n (plainLine .step))) := by
  induction n generalizing s with
  | zero => rfl
  | succ n ih =>
    rw [run_succ h, ih (by rw [State.loopOnce_schedule, h])]
    rfl

/-! ## `drain` -/

/-- Wherever a `drain` ends, it ends settled (R193). -/
theorem settled_of_drainWithin {n : Nat} {gaps : List (List Byte)} {s : State} {ls : List TraceLine}
    (h : drainWithin n gaps s = some ls) : (s.performLines ls).settled = true := by
  induction n generalizing gaps s ls with
  | zero => cases h
  | succ n ih =>
    cases he : s.endsDrain with
    | true =>
      cases (drainWithin_last he n gaps).symm.trans h
      exact State.settled_of_endsDrain he
    | false =>
      rw [drainWithin_round he] at h
      obtain ⟨more, hmore, rfl⟩ := Option.map_eq_some_iff.mp h
      rw [State.performLines_append]
      exact ih hmore

theorem State.endsDrain_eq_false {s : State} (h : s.sequencer.phase ≠ .check) : s.endsDrain = false := by
  simp [State.endsDrain, h]

/-- A STEP of a `drain` with no push after it. -/
theorem drainWithin_succ {s : State} (h : s.endsDrain = false) (n : Nat) :
    drainWithin (n + 1) [] s = (drainWithin n [] s.loopOnce).map (plainLine .step :: ·) :=
  drainWithin_round h n []

/-- How many STEPs one pop is: one, or the two halves of a split pop (R182, R184). -/
def popSteps (atomicPop : Bool) : Nat := if atomicPop then 1 else 2

theorem drainSteps_succ (a : Bool) (c : Nat) : drainSteps a (c + 1) = drainSteps a c + popSteps a := by
  cases a <;> rfl

/-- From `Poll` with a byte to pop, one pop leads back to `Poll` with one byte less. -/
theorem drainWithin_pop {s : State} (hp : s.sequencer.phase = .poll) (he : s.transport.head ≠ s.transport.tail) :
    ∃ t : State, t.sequencer.phase = .poll ∧ t.params = s.params ∧
      t.transport = s.params.popAdvance s.transport ∧
      ∀ n, drainWithin (n + popSteps s.params.atomicPop) [] s =
        (drainWithin n [] t).map (List.replicate (popSteps s.params.atomicPop) (plainLine .step) ++ ·) := by
  have hfirst := State.endsDrain_eq_false (s := s) (by simp [hp])
  cases ha : s.params.atomicPop with
  | true =>
    obtain ⟨hpoll, htr⟩ := State.loopOnce_pop hp he ha
    exact ⟨s.loopOnce, hpoll, s.loopOnce_params, htr, drainWithin_succ hfirst⟩
  | false =>
    obtain ⟨hcommit, hlatch, hsame⟩ := State.loopOnce_latch hp he ha
    obtain ⟨hpoll, htr⟩ := State.loopOnce_commit_latched hcommit (hlatch.trans (by rw [hsame]))
    have hsecond := State.endsDrain_eq_false (s := s.loopOnce) (by simp [hcommit])
    refine ⟨s.loopOnce.loopOnce, hpoll, by simp, by rw [htr, s.loopOnce_params, hsame], fun n => ?_⟩
    calc drainWithin (n + 2) [] s = (drainWithin (n + 1) [] s.loopOnce).map (plainLine .step :: ·) :=
          drainWithin_succ hfirst (n + 1)
      _ = ((drainWithin n [] s.loopOnce.loopOnce).map (plainLine .step :: ·)).map (plainLine .step :: ·) := by
          rw [drainWithin_succ hsecond]
      _ = _ := Option.map_map _ _ _

/-- From `Poll`, `drain` is the STEPs of R85: the pops, the empty observation, and `Check` (C9). -/
theorem drainWithin_poll {s : State} (hp : s.sequencer.phase = .poll) (hw : WF1 s) {c : Nat}
    (hc : s.params.count s.transport = c) (n : Nat) :
    drainWithin (n + drainSteps s.params.atomicPop c) [] s =
      some (List.replicate (drainSteps s.params.atomicPop c) (plainLine .step)) := by
  obtain ⟨hh, ht⟩ := hw
  induction c generalizing s with
  | zero =>
    have he : s.transport.head = s.transport.tail := (Params.count_eq_zero_iff hh ht).mp hc
    obtain ⟨hcheck, htr⟩ := State.loopOnce_empty hp he
    have hend : s.loopOnce.endsDrain = true := s.loopOnce.endsDrain_iff.mpr ⟨hcheck, by rw [htr, he]⟩
    have htwo : drainSteps s.params.atomicPop 0 = 2 := by simp [drainSteps]
    rw [htwo, drainWithin_succ (State.endsDrain_eq_false (by simp [hp])), drainWithin_last hend]
    rfl
  | succ c ih =>
    have he : s.transport.head ≠ s.transport.tail := fun he => by
      simp [(Params.count_eq_zero_iff hh ht).mpr he] at hc
    obtain ⟨t, hpoll, hpar, htr, hpop⟩ := drainWithin_pop hp he
    have hcount := Params.count_popAdvance hh ht he
    have hrest := ih hpoll (by rw [hpar, htr]; omega) (by rw [hpar, htr]; exact hh)
      (by rw [hpar, htr]; exact s.params.nextIndex_lt _)
    rw [drainSteps_succ, ← Nat.add_assoc, hpop, ← hpar, hrest, Nat.add_comm (drainSteps _ c), List.replicate_add]
    rfl

/-- The STEPs of a `drain` from `Poll` with at most `N - 1` bytes (R193). -/
theorem drainSteps_le {a : Bool} {c m : Nat} (h : c < m) : drainSteps a c ≤ 2 * (m - 1) + 2 := by
  rw [drainSteps]
  split <;> omega

/-- From `Poll` the bound of R193 leaves enough STEPs. -/
theorem drainWithin_poll_of_le {s : State} (hp : s.sequencer.phase = .poll) (hw : WF1 s) {n : Nat}
    (hn : 2 * (s.params.ringSize - 1) + 2 ≤ n) :
    drainWithin n [] s =
      some (List.replicate (drainSteps s.params.atomicPop (s.params.count s.transport)) (plainLine .step)) := by
  have hle := (drainSteps_le (a := s.params.atomicPop) (s.params.count_lt s.transport)).trans hn
  rw [← Nat.sub_add_cancel hle]
  exact drainWithin_poll hp hw rfl _

/-- From any phase `2(N - 1) + 3` STEPs are enough (R193). -/
theorem exists_drainWithin_nil {s : State} (hw : WF1 s) :
    ∃ ls, drainWithin (2 * (s.params.ringSize - 1) + 3) [] s = some ls := by
  by_cases hp : s.sequencer.phase = .poll
  · exact ⟨_, drainWithin_poll_of_le hp hw (by omega)⟩
  · cases he : s.endsDrain with
    | true => exact ⟨_, drainWithin_last he _ _⟩
    | false =>
      obtain ⟨hpoll, hw'⟩ := State.loopOnce_polls hp hw
      exact ⟨_, by rw [drainWithin_succ he, drainWithin_poll_of_le hpoll hw' (by simp), Option.map_some]⟩

/-- A trace line keeps the parameters and the legal indices. -/
theorem State.perform_keeps {s : State} (hk : s.ParamsOk) (hw : WF1 s) (i : Issue) :
    (s.perform i).params = s.params ∧ WF1 (s.perform i) := by
  obtain ⟨j, -, hj⟩ | ⟨r, -, hr⟩ := performWord_cases i.word { s with issuer := i.agent }
  · obtain ⟨t, ht, he⟩ := exec_answers j { s with issuer := i.agent }
    obtain ⟨hp, -, -⟩ := he.frame
    rw [State.perform_of_next (hj.trans ht)]
    exact ⟨hp, he.wf1 hk hw⟩
  · rw [State.perform_of_next hr]
    exact ⟨rfl, hw⟩

theorem State.performLines_keeps {s : State} (hk : s.ParamsOk) (hw : WF1 s) (ls : List TraceLine) :
    (s.performLines ls).params = s.params ∧ WF1 (s.performLines ls) := by
  induction ls generalizing s with
  | nil => exact ⟨rfl, hw⟩
  | cons l ls ih =>
    obtain ⟨hp, hw'⟩ := State.perform_keeps hk hw l.issue
    obtain ⟨hp', hw''⟩ := ih (by rwa [State.ParamsOk, hp]) hw'
    exact ⟨hp'.trans hp, hw''⟩

/-- `drain` has an expansion whatever is pushed between its STEPs (R85). -/
theorem exists_drainExpansion {s : State} (hk : s.ParamsOk) (hw : WF1 s) (gaps : List (List Byte)) :
    ∃ ls, s.drainExpansion gaps = some ls := by
  unfold State.drainExpansion
  induction gaps generalizing s with
  | nil =>
    rw [List.length_nil, Nat.zero_add]
    exact exists_drainWithin_nil hw
  | cons bs gaps ih =>
    rw [List.length_cons, Nat.add_right_comm]
    cases he : s.endsDrain with
    | true => exact ⟨_, drainWithin_last he _ _⟩
    | false =>
      obtain ⟨hp, hw'⟩ := State.performLines_keeps hk hw (plainLine .step :: send bs)
      obtain ⟨ls, hls⟩ := ih (by rwa [State.ParamsOk, hp]) hw'
      rw [hp] at hls
      exact ⟨_, (drainWithin_round he _ _).trans (congrArg (Option.map _) hls)⟩

/-! ## Settling -/

/-- From `Poll` the loop settles in exactly the STEPs of `drain` (R193). -/
theorem run_settles_poll {s : State} (hs : s.schedule = []) (hp : s.sequencer.phase = .poll) (hw : WF1 s) :
    ∃ t : State, Host.Core.run core (drainSteps s.params.atomicPop (s.params.count s.transport)) s = .next t ∧
      t.settled = true :=
  ⟨_, run_eq_performLines hs _, settled_of_drainWithin (drainWithin_poll hp hw rfl 0)⟩

/-- From the other phases one STEP more is needed than from the `Poll` it leads to. -/
theorem run_settles_succ {s : State} (hs : s.schedule = []) (hp : s.sequencer.phase ≠ .poll) (hw : WF1 s) :
    ∃ t : State,
      Host.Core.run core (drainSteps s.params.atomicPop (s.params.count s.loopOnce.transport) + 1) s = .next t ∧
      t.settled = true := by
  obtain ⟨hpoll, hw'⟩ := State.loopOnce_polls hp hw
  rw [run_succ hs]
  simpa using run_settles_poll (s.loopOnce_schedule.trans hs) hpoll hw'

/-- Settles O47: every clause counts the STEPs of `drain` from the first `Poll`, and the STEP that leads there. -/
theorem drainSettles : Obligations.DrainSettles := by
  intro s hw
  refine ⟨fun hs hp => run_settles_poll hs hp hw, fun hs hp => ?_, fun hs hp ha hl hne => ?_, fun hs hp => ?_,
    fun hp => ?_, fun hk gaps => ?_⟩
  · have hcount : s.params.count s.loopOnce.transport = s.params.count s.transport := by
      obtain ⟨-, htr⟩ := State.loopOnce_check hp
      rw [htr]
      rfl
    have hsteps (c : Nat) :
        (if s.params.atomicPop then c + 3 else 2 * c + 3) = drainSteps s.params.atomicPop c + 1 := by
      rw [drainSteps]
      split <;> rfl
    rw [hsteps, ← hcount]
    exact run_settles_succ hs (by simp [hp]) hw
  · have hcount : s.params.count s.transport = s.params.count s.loopOnce.transport + 1 := by
      obtain ⟨hh, ht⟩ := hw
      obtain ⟨-, htr⟩ := State.loopOnce_commit_latched hp hl
      rw [htr]
      exact Params.count_popAdvance hh ht hne
    have h := run_settles_succ hs (by simp [hp]) hw
    rw [ha] at h
    rw [hcount]
    exact h
  · obtain ⟨t, hrun, hset⟩ := run_settles_succ hs (by simp [hp]) hw
    exact ⟨_, t, Nat.succ_le_succ (drainSteps_le (s.params.count_lt s.loopOnce.transport)), hrun, hset⟩
  · rw [State.drainExpansion, List.length_nil, Nat.zero_add, drainWithin_poll_of_le hp hw (Nat.le_succ _)]
    rfl
  · obtain ⟨ls, hls⟩ := exists_drainExpansion hk hw gaps
    exact ⟨ls, hls, settled_of_drainWithin hls⟩

end Sys2Proof.Machine
end

section
/-! SUPPORT. The transactions of the ByteTransport (`40_transport.md`): what PUSH, POP, TAKE_OVERFLOW and a refusal
leave behind, and how many bytes the ring holds. -/

namespace Sys2Proof.Machine

/-! ## The capacity -/

theorem Params.length_contents (p : Params) (t : Transport) : (p.contents t).length = p.count t := by
  simp [Params.contents]

/-- A full buffer holds `N - 1` bytes (R103, R104). -/
theorem Params.count_of_isFull {p : Params} {t : Transport} (hh : t.head < p.ringSize) (ht : t.tail < p.ringSize)
    (hf : p.isFull t = true) : p.count t + 1 = p.ringSize := by
  have hN := p.ringSize_pos
  have hhead : (t.tail + (p.ringSize - 1)) % p.ringSize = t.head := by
    rw [← (p.isFull_iff t).mp hf, Params.nextIndex, Nat.mod_add_mod,
      show t.head + 1 + (p.ringSize - 1) = t.head + p.ringSize by omega, Nat.add_mod_right, Nat.mod_eq_of_lt hh]
  rw [Params.count_eq hh ht (by omega) hhead]
  omega

theorem Params.isFull_iff_count {p : Params} {t : Transport} (hh : t.head < p.ringSize) (ht : t.tail < p.ringSize) :
    p.isFull t = true ↔ p.count t + 1 = p.ringSize := by
  refine ⟨Params.count_of_isFull hh ht, fun hc => ?_⟩
  by_contra hf
  exact (Params.count_add_one_lt hh ht (Bool.eq_false_iff.mpr hf)).ne hc

theorem Params.isFull_eq_false_iff_count {p : Params} {t : Transport} (hh : t.head < p.ringSize)
    (ht : t.tail < p.ringSize) : p.isFull t = false ↔ p.count t + 1 < p.ringSize :=
  ⟨Params.count_add_one_lt hh ht, fun hc => Bool.eq_false_iff.mpr fun h => hc.ne (Params.count_of_isFull hh ht h)⟩

theorem Params.push_of_isFull {p : Params} {t : Transport} (h : p.isFull t = true) (b : Byte) :
    p.push b t = p.overflowPush b t := by simp [Params.push, h]

theorem Params.push_of_not_isFull {p : Params} {t : Transport} (h : p.isFull t = false) (b : Byte) :
    p.push b t = p.normalPush b t := by simp [Params.push, h]

/-- An overflow that is not yet taken survives every PUSH (R111). -/
theorem Params.push_ovf_of_ovf {t : Transport} (h : t.ovf = true) (p : Params) (b : Byte) :
    (p.push b t).ovf = true := by
  obtain ⟨-, hp⟩ | ⟨-, hp⟩ := p.push_cases b t <;> rw [hp]
  · exact p.overflowPush_ovf b t
  · exact h

theorem Params.pushes_ovf_of_ovf {t : Transport} (h : t.ovf = true) (p : Params) (bs : List Byte) :
    (bs.foldl (fun r b => p.push b r) t).ovf = true := by
  induction bs generalizing t with
  | nil => exact h
  | cons b bs ih => exact ih (Params.push_ovf_of_ovf h p b)

/-- Pushes that fit into the free slots are appended in order, and none of them overflows (R100, R103). -/
theorem Params.pushes_of_fit {p : Params} (hk : 1 ≤ p.k) (bs : List Byte) {t : Transport} (hh : t.head < p.ringSize)
    (ht : t.tail < p.ringSize) (hfit : p.count t + bs.length < p.ringSize) :
    let u := bs.foldl (fun r b => p.push b r) t
    p.contents u = p.contents t ++ bs ∧ u.ovf = t.ovf ∧ u.head < p.ringSize ∧ u.tail < p.ringSize := by
  induction bs generalizing t with
  | nil => exact ⟨(List.append_nil _).symm, rfl, hh, ht⟩
  | cons b bs ih =>
    rw [List.length_cons] at hfit
    have hf : p.isFull t = false := (Params.isFull_eq_false_iff_count hh ht).mpr (by omega)
    have hpush := Params.push_of_not_isFull hf b
    obtain ⟨hh', ht'⟩ := Params.push_indices hk b ht
    have hcount : p.count (p.push b t) = p.count t + 1 := by rw [hpush, Params.count_normalPush hh ht hf]
    obtain ⟨hc, ho, hu⟩ := ih hh' ht' (by omega)
    refine ⟨hc.trans ?_, ho.trans ?_, hu⟩
    · rw [hpush, Params.contents_normalPush hh ht hf, List.append_assoc, List.singleton_append]
    · rw [hpush, Params.normalPush_ovf]

/-- Settles O54: `N - 1` bytes fit and fill the buffer, so the next byte finds it full (R103). -/
theorem capacityIsNMinusOne : Obligations.CapacityIsNMinusOne := by
  intro p t bs b c hk hh he hlen u
  have ht : t.tail < p.ringSize := he ▸ hh
  have hN := p.ringSize_pos
  have hlen' : bs.length + 1 = p.ringSize := by rw [hlen]; exact Nat.sub_add_cancel hN
  have hzero : p.count t = 0 := (Params.count_eq_zero_iff hh ht).mpr he.symm
  have hnil : p.contents t = [] := (Params.contents_eq_nil_iff hh ht).mpr he.symm
  obtain ⟨hc, ho, huh, hut⟩ := Params.pushes_of_fit hk bs hh ht (by omega)
  rw [hnil, List.nil_append] at hc
  have hfull : p.isFull u = true :=
    (Params.isFull_iff_count huh hut).mpr (by rw [← Params.length_contents, hc, hlen'])
  have hpush := Params.push_of_isFull hfull b
  have hb : p.contents (p.push b u) = [b] := by rw [hpush, Params.contents_overflowPush hk]
  refine ⟨hc, ho, hb, by rw [hpush, Params.overflowPush_ovf], fun hk2 => ?_⟩
  obtain ⟨hvh, hvt⟩ := Params.push_indices hk b hut
  have hfour : 2 ^ 2 ≤ p.ringSize := Nat.pow_le_pow_right (by norm_num) hk2
  have hroom : p.isFull (p.push b u) = false := by
    rw [Params.isFull_eq_false_iff_count hvh hvt, ← Params.length_contents, hb, List.length_singleton]
    omega
  rw [Params.push_of_not_isFull hroom, Params.contents_normalPush hvh hvt hroom, hb, List.singleton_append]

/-! ## PUSH -/

theorem State.respond_withTransport_producer {s : State} (h : s.issuer = .producer) (t : Transport) (r : Response) :
    (s.withTransport t).respond r = { s with transport := t, producerResponse := some r } :=
  State.respond_producer r (s.withTransport t) h

theorem exec_push_eq {s : State} (hi : s.issuer = .producer) (b : Byte) :
    exec (.push b) s =
      .next { s with transport := s.params.push b s.transport, producerResponse := some .nothing } := by
  rw [exec_push_producer hi, State.respond_withTransport_producer hi]

/-- Settles O13: by WF1 the slot written, `head mod N`, is slot `head` itself. -/
theorem pushStoresByteAtHead : Obligations.PushStoresByteAtHead := by
  rintro b s hi ⟨hh, -⟩ hroom
  have hf : s.params.isFull s.transport = false := decide_eq_false hroom
  have hslot : s.transport.head % s.params.ringSize = s.transport.head := Nat.mod_eq_of_lt hh
  refine ⟨s.transport.slots.write s.transport.head b, ?_, Memory.read_write_same _ _ _,
    fun a ha => Memory.read_write_other _ _ _ _ ha⟩
  rw [exec_push_eq hi, Params.push_of_not_isFull hf, Params.normalPush, Params.writeSlot, hslot]
  rfl

/-- Settles O14. -/
theorem pushOverflowRecovers : Obligations.PushOverflowRecovers := by
  intro b s hi hfull
  have hf : s.params.isFull s.transport = true := decide_eq_true hfull
  refine ⟨s.transport.slots.write 0 b, ?_, Memory.read_write_same _ _ _,
    fun a ha => Memory.read_write_other _ _ _ _ ha⟩
  rw [exec_push_eq hi, Params.push_of_isFull hf, Params.overflowPush, Params.writeSlot, Nat.zero_mod]
  rfl

/-! ## POP -/

theorem State.respond_withTransport_consumer {s : State} (h : s.issuer = .consumer) (t : Transport) (r : Response) :
    (s.withTransport t).respond r = { s with transport := t, consumerResponse := some r } :=
  State.respond_consumer r (s.withTransport t) h

theorem exec_pop_empty {s : State} (ht : s.ConsumerTurn) (he : s.transport.head = s.transport.tail) :
    exec .pop s = .next { s with consumerResponse := some .empty } := by
  rw [exec_eq_next_iff.mpr (.popEmpty ht he), State.respond_consumer _ _ ht.left]

theorem exec_pop_byte {s : State} (ht : s.ConsumerTurn) (he : s.transport.head ≠ s.transport.tail) :
    exec .pop s = .next { s with
      transport := s.params.popAdvance s.transport
      consumerResponse := some (.byte (s.params.popByte s.transport)) } := by
  rw [exec_eq_next_iff.mpr (.popByte ht he), State.respond_withTransport_consumer ht.left]

/-- Settles O16: by WF1 the slot read, `tail mod N`, is slot `tail` itself. -/
theorem popTakesByteAtTail : Obligations.PopTakesByteAtTail := by
  rintro s hturn ⟨-, ht⟩ he
  have hslot : s.transport.tail % s.params.ringSize = s.transport.tail := Nat.mod_eq_of_lt ht
  rw [exec_pop_byte hturn he, Params.popByte, Params.readSlot, hslot]
  rfl

/-- Settles O17. -/
theorem popEmptyChangesNothing : Obligations.PopEmptyChangesNothing := fun _ => exec_pop_empty

/-- A pop of the only unread byte leaves the buffer empty (R106). -/
theorem Params.pop_of_contents_singleton {p : Params} {t : Transport} {b : Byte} (hh : t.head < p.ringSize)
    (ht : t.tail < p.ringSize) (h : p.contents t = [b]) :
    t.head ≠ t.tail ∧ p.popByte t = b ∧ (p.popAdvance t).head = (p.popAdvance t).tail := by
  have hne : t.head ≠ t.tail := fun he => by simp [(Params.contents_eq_nil_iff hh ht).mpr he] at h
  obtain ⟨hbyte, hrest⟩ := List.cons.inj ((Params.contents_pop hh ht hne).symm.trans h)
  exact ⟨hne, hbyte, (Params.contents_eq_nil_iff (t := p.popAdvance t) hh (p.nextIndex_lt _)).mp hrest⟩

/-- Settles O15: the recovery leaves the queue `[b]`, of which POP takes the head and leaves `[]` (R101, R106). -/
theorem overflowByteIsPoppedNext : Obligations.OverflowByteIsPoppedNext := by
  intro b s hi hk hp hfull
  have hone : s.params.contents (s.params.push b s.transport) = [b] := by
    rw [Params.push_of_isFull (decide_eq_true hfull), Params.contents_overflowPush hk]
  obtain ⟨hh, ht⟩ := Params.push_indices hk b (hfull.symm.trans_lt (s.params.nextIndex_lt s.transport.head))
  obtain ⟨hne, hbyte, hempty⟩ := Params.pop_of_contents_singleton hh ht hone
  refine ⟨_, _, exec_push_eq hi b, ?_, hone, exec_pop_byte ⟨rfl, hp⟩ hne, ?_, hempty⟩
  · rw [← Params.length_contents, hone, List.length_singleton]
  · rw [hbyte]

/-! ## TAKE_OVERFLOW -/

theorem exec_takeOverflow_eq {s : State} (h : s.ConsumerTurn) :
    exec .takeOverflow s = .next { s with
      transport := s.transport.clearOverflow
      consumerResponse := some (.flag s.transport.ovf) } := by
  rw [exec_takeOverflow_turn h, State.respond_withTransport_consumer h.left]

/-- Settles O18: a turn lasts through TAKE_OVERFLOW, so the second one finds the flag cleared. -/
theorem takeOverflowReadsAndClears : Obligations.TakeOverflowReadsAndClears :=
  fun _ h => ⟨_, rfl, exec_takeOverflow_eq h, exec_takeOverflow_eq h⟩

/-- Settles O19: the pushes keep `ovf` at 1, the first TAKE_OVERFLOW returns it and the second finds it cleared. -/
theorem overflowsCoalesce : Obligations.OverflowsCoalesce := by
  intro s bs h hovf
  refine ⟨_, _, _, rfl, fun b r => exec_push_eq rfl b, exec_takeOverflow_eq h, ?_,
    exec_takeOverflow_eq h, rfl⟩
  rw [Params.pushes_ovf_of_ovf hovf]

/-! ## The wrong context -/

theorem State.refuse_producer {s : State} (h : s.issuer = .producer) (r : RefusalReason) :
    s.refuse r = { s with refusalMark := true, producerResponse := some (.refused r) } :=
  State.respond_producer _ { s with refusalMark := true } h

theorem State.refuse_consumer {s : State} (h : s.issuer = .consumer) (r : RefusalReason) :
    s.refuse r = { s with refusalMark := true, consumerResponse := some (.refused r) } :=
  State.respond_consumer _ { s with refusalMark := true } h

/-- PUSH is the producer's only transaction (R214). -/
theorem context_eq_consumer {i : Instr} (h : ∀ b, i ≠ .push b) : i.context = .consumer := by
  cases i with
  | push b => exact absurd rfl (h b)
  | _ => rfl

/-- Settles O20. -/
theorem wrongContextRefused : Obligations.WrongContextRefused := by
  intro i s
  constructor
  · rintro hi ⟨b, rfl⟩
    rw [exec_wrongContext (by simp [hi, Instr.context]), State.refuse_consumer hi]
  · intro hi hne
    rw [exec_wrongContext (by simp [hi, context_eq_consumer hne]), State.refuse_producer hi]

end Sys2Proof.Machine
end

section
/-! SUPPORT. The transactions of the MidiParser (`41_parser.md`): what each FEED row and FORCE_DESYNC leave behind, what
sequences of bytes emit, and which messages can be emitted at all. -/

namespace Sys2Proof.Machine

/-! ## FEED on the parser, by the class of its byte -/

/-- A real-time byte is emitted in every parser (R140). -/
theorem Parser.feed_realtime {b : Byte} (h : isRealtime b = true) (p : Parser) :
    p.feed b = (p, some (realtimeMsg b)) := by simp [Parser.feed, h]

/-- A system status ends a desync and clears the tracking (R142, R143). -/
theorem Parser.feed_systemByte (v : BitVec 3) (p : Parser) :
    p.feed (systemByte v) = (p.endDesync.clearTracking, none) := by
  obtain ⟨hr, hd, hs, hy⟩ := systemByte_class v
  simp [Parser.feed, Parser.statusCase, hr, hd, hs, hy]

/-- A desynced parser discards a data byte (R141). -/
theorem Parser.feed_data_desynced {p : Parser} (hd : p.desynced = true) {b : Byte} (hb : b.toNat < 0x80) :
    p.feed b = (p, none) := by
  have hr : isRealtime b = false := (isRealtime_eq_false_iff b).mpr (by omega)
  simp [Parser.feed, hr, hd, (isData_iff b).mpr hb]

/-- A data byte with no status at all is stray (R153). -/
theorem Parser.feed_data_stray {p : Parser} (hc : p.currentStatus = 0x00#8) (hrs : p.runningStatus = 0x00#8)
    {b : Byte} (hb : b.toNat < 0x80) : p.feed b = (p, none) := by
  have hr : isRealtime b = false := (isRealtime_eq_false_iff b).mpr (by omega)
  simp [Parser.feed, Parser.dataCase, hr, (isStatus_eq_false_iff b).mpr hb, hc, hrs]

theorem dataByte_lt (v : BitVec 7) : (dataByte v).toNat < 0x80 := (isData_iff _).mp (dataByte_class v).2.1

/-- The status that a data byte belongs to (R152, R154). -/
def Parser.governing (p : Parser) : Byte := if p.currentStatus = 0x00#8 then p.runningStatus else p.currentStatus

theorem Parser.adopt_eq (p : Parser) : p.adopt = { p with currentStatus := p.governing } := by
  obtain ⟨hc, ha⟩ | ⟨hc, ha⟩ := p.adopt_cases <;> simp [ha, Parser.governing, hc]

/-- A data byte under a governing status is collected into its message (R152, R154). -/
theorem Parser.feed_data_governed {p : Parser} (hd : p.desynced = false) (hg : p.governing ≠ 0x00#8) (v : BitVec 7) :
    p.feed (dataByte v) = ({ p with currentStatus := p.governing } : Parser).collect (dataByte v) := by
  obtain ⟨hr, -, hs⟩ := dataByte_class v
  have hst : ¬(p.currentStatus = 0x00#8 ∧ p.runningStatus = 0x00#8) := fun ⟨hc, hrs⟩ =>
    hg (by simp [Parser.governing, hc, hrs])
  simp [Parser.feed, Parser.dataCase, hr, hs, hd, hst, p.adopt_eq]

/-- The data byte of a one-data-byte status completes its message (R155). -/
theorem Parser.feed_data_two {p : Parser} (hd : p.desynced = false) (hg : p.governing ≠ 0x00#8)
    (hn : p.bytesNeeded = 1) (v : BitVec 7) :
    p.feed (dataByte v) = ({ p with currentStatus := 0x00#8 }, some (twoByteMsg p.governing (dataByte v))) := by
  simp [Parser.feed_data_governed hd hg, Parser.collect, hn, Parser.finishTwo]

/-- The first of two data bytes is stashed (R156). -/
theorem Parser.feed_data_first {p : Parser} (hd : p.desynced = false) (hg : p.governing ≠ 0x00#8)
    (hn : p.bytesNeeded = 2) (hh : p.bytesHave = false) (v : BitVec 7) :
    p.feed (dataByte v) =
      ({ p with currentStatus := p.governing, pendingD1 := dataByte v, bytesHave := true }, none) := by
  simp [Parser.feed_data_governed hd hg, Parser.collect, hn, hh, Parser.stash]

/-- The second of two data bytes completes the message (R157). -/
theorem Parser.feed_data_second {p : Parser} (hd : p.desynced = false) (hg : p.governing ≠ 0x00#8)
    (hn : p.bytesNeeded = 2) (hh : p.bytesHave = true) (v : BitVec 7) :
    p.feed (dataByte v) = ({ p with currentStatus := 0x00#8, bytesHave := false },
      some (threeByteMsg p.governing p.pendingD1 (dataByte v))) := by
  simp [Parser.feed_data_governed hd hg, Parser.collect, hn, hh, Parser.finishThree]

/-- With no need only the adoption remains (R154, R158). -/
theorem Parser.feed_data_no_need {p : Parser} (hd : p.desynced = false) (hg : p.governing ≠ 0x00#8)
    (hn : p.bytesNeeded = 0) (v : BitVec 7) :
    p.feed (dataByte v) = ({ p with currentStatus := p.governing }, none) := by
  simp [Parser.feed_data_governed hd hg, Parser.collect, hn]

/-! ## FEED as a transaction -/

/-- The frame of FEED: the parser, `out` and the consumer's response (R130, R132). -/
theorem State.feed_respond {s : State} (h : s.issuer = .consumer) (b : Byte) (r : Response) :
    (s.feed b).respond r = { s with
      parser := (s.parser.feed b).1
      out := s.out ++ (s.parser.feed b).2.toList
      consumerResponse := some r } :=
  State.respond_consumer r (s.feed b) h

theorem State.feedResponse_none {s : State} {b : Byte} (h : (s.parser.feed b).2 = none) :
    s.feedResponse b = .noMessage := by simp [State.feedResponse, h]

theorem State.feedResponse_some {s : State} {b : Byte} {m : MidiMsg} (h : (s.parser.feed b).2 = some m) :
    s.feedResponse b = .message m := by simp [State.feedResponse, h]

theorem exec_feedRow_turn {i : Instr} (hi : isFeedRow i = true) {s : State} (ht : s.ConsumerTurn) :
    exec i s = .next { s with
      parser := (s.parser.feed i.argByte).1
      out := s.out ++ (s.parser.feed i.argByte).2.toList
      consumerResponse := some (s.feedResponse i.argByte) } := by
  rw [exec_feedRow i s hi, feedTransaction_turn _ s ht, State.feed_respond ht.left]

/-- A FEED row whose byte completes no message (R132). -/
theorem exec_feedRow_silent {i : Instr} (hi : isFeedRow i = true) {s : State} (ht : s.ConsumerTurn) {p : Parser}
    (hf : s.parser.feed i.argByte = (p, none)) :
    exec i s = .next { s with parser := p, consumerResponse := some .noMessage } := by
  rw [exec_feedRow_turn hi ht, State.feedResponse_none (congrArg Prod.snd hf), hf, Option.toList_none,
    List.append_nil]

/-- A FEED row whose byte completes message `m` (R132). -/
theorem exec_feedRow_emits {i : Instr} (hi : isFeedRow i = true) {s : State} (ht : s.ConsumerTurn) {p : Parser}
    {m : MidiMsg} (hf : s.parser.feed i.argByte = (p, some m)) :
    exec i s = .next { s with parser := p, out := s.out ++ [m], consumerResponse := some (.message m) } := by
  rw [exec_feedRow_turn hi ht, State.feedResponse_some (congrArg Prod.snd hf), hf, Option.toList_some]

/-- Settles O36: the message is the one that the parser's FEED emits. -/
theorem feedEmitsWhatItReturns : Obligations.FeedEmitsWhatItReturns := by
  intro b s ht
  have hexec := exec_feedInstr_turn ht b
  rw [State.feed_respond ht.left] at hexec
  refine ⟨_, (s.parser.feed b).2, hexec, rfl, fun ho => ?_, fun m ho => ?_, fun hb => ?_⟩
  · exact congrArg some (State.feedResponse_none ho)
  · exact congrArg some (State.feedResponse_some ho)
  · simp [Parser.feed_realtime (decide_eq_true hb)]

/-! ## The rows of the status bytes -/

/-- Settles O23. -/
theorem realtimeEmitsAndChangesNothing : Obligations.RealtimeEmitsAndChangesNothing := fun v s ht =>
  exec_feedRow_emits rfl ht (s.parser.feed_realtime (realtimeByte_class v))

/-- Settles O24. -/
theorem systemStatusClearsTracking : Obligations.SystemStatusClearsTracking := fun v s ht =>
  exec_feedRow_silent rfl ht (s.parser.feed_systemByte v)

/-- A channel-voice status row starts its running status with the need of its kind (R144). -/
theorem exec_statusRow {i : Instr} (hi : isFeedRow i = true) {k c : BitVec 4} (hb : i.argByte = statusByte k c)
    {n : Fin 3} (hk : (0x8 ≤ k.toNat ∧ k.toNat ≤ 0xE) ∧ need (statusByte k c) = n) {s : State} (ht : s.ConsumerTurn) :
    exec i s = .next { s with
      parser := { runningStatus := statusByte k c, currentStatus := statusByte k c, bytesNeeded := n,
                  bytesHave := false, pendingD1 := s.parser.pendingD1, desynced := false }
      consumerResponse := some .noMessage } := by
  obtain ⟨hrange, rfl⟩ := hk
  refine exec_feedRow_silent hi ht ?_
  rw [hb, Parser.feed_statusByte hrange]
  rfl

/-- Settles O25: the kinds of the seven rows, each with its need. -/
theorem channelVoiceStartsRunningStatus : Obligations.ChannelVoiceStartsRunningStatus := by
  intro c s ht
  exact ⟨exec_statusRow rfl rfl (two_byte_kind (by decide) c) ht,
    exec_statusRow rfl rfl (two_byte_kind (by decide) c) ht,
    exec_statusRow rfl rfl (two_byte_kind (by decide) c) ht,
    exec_statusRow rfl rfl (two_byte_kind (by decide) c) ht,
    exec_statusRow rfl rfl (one_byte_kind (by decide) c) ht,
    exec_statusRow rfl rfl (one_byte_kind (by decide) c) ht,
    exec_statusRow rfl rfl (two_byte_kind (by decide) c) ht⟩

/-! ## The row of the data bytes -/

/-- Settles O27. -/
theorem strayDataAbsorbed : Obligations.StrayDataAbsorbed := fun v _ ht hc hr =>
  exec_feedRow_silent rfl ht (Parser.feed_data_stray hc hr (dataByte_lt v))

/-- Settles O28. -/
theorem dataByteCompletesLengthTwo : Obligations.DataByteCompletesLengthTwo := by
  rintro v s _ ht hd hn rfl hg
  exact exec_feedRow_emits rfl ht (Parser.feed_data_two hd hg hn v)

/-- Settles O29. -/
theorem firstDataByteStashed : Obligations.FirstDataByteStashed := by
  rintro v s _ ht hd hn hh rfl hg
  exact exec_feedRow_silent rfl ht (Parser.feed_data_first hd hg hn hh v)

/-- Settles O30. -/
theorem secondDataByteCompletesLengthThree : Obligations.SecondDataByteCompletesLengthThree := by
  rintro v s _ ht hd hn hh rfl hg
  exact exec_feedRow_emits rfl ht (Parser.feed_data_second hd hg hn hh v)

/-- Settles O31: by WF4 the need is that of the running status, and only the null status needs nothing. -/
theorem dataByteWithNoNeedIgnored : Obligations.DataByteWithNoNeedIgnored := by
  refine ⟨?_, fun p hw hst => (hw.needs (not_and_or.mpr hst)).2⟩
  rintro v s _ ht hd hn rfl hg
  exact exec_feedRow_silent rfl ht (Parser.feed_data_no_need hd hg hn v)

/-! ## FORCE_DESYNC -/

/-- FORCE_DESYNC leaves the same parser whatever it finds (R160). -/
theorem Parser.forceDesync_eq (p q : Parser) : p.forceDesync = q.forceDesync := rfl

theorem exec_forceDesync_eq {s : State} (h : s.ConsumerTurn) :
    exec .forceDesync s = .next { s with
      parser := s.parser.forceDesync
      consumerResponse := some .nothing } := by
  rw [exec_forceDesync_turn h]
  exact congrArg _ (State.respond_consumer _ (s.withParser s.parser.forceDesync) h.left)

/-- Settles O37: a turn lasts through FORCE_DESYNC, and the second one finds nothing left to discard. -/
theorem forceDesyncResetsParser : Obligations.ForceDesyncResetsParser := fun _ h =>
  ⟨_, rfl, exec_forceDesync_eq h, exec_forceDesync_eq h⟩

/-! ## Sequences of data and real-time bytes -/

/-- A parser that discards every data byte keeps its state through data and real-time bytes, and emits the real-time
bytes alone (R140). -/
theorem Parser.feedAll_of_discards {p : Parser} (hp : ∀ b : Byte, b.toNat < 0x80 → p.feed b = (p, none))
    {bs : List Byte} (hbs : ∀ b ∈ bs, b.toNat < 0x80 ∨ 0xF8 ≤ b.toNat) :
    p.feedAll bs = (p, (bs.filter isRealtime).map realtimeMsg) := by
  induction bs with
  | nil => rfl
  | cons b bs ih =>
    obtain ⟨hb, hrest⟩ := List.forall_mem_cons.mp hbs
    obtain hdata | hreal := hb
    · have hr : isRealtime b = false := (isRealtime_eq_false_iff b).mpr (by omega)
      simp [hp b hdata, hr, ih hrest]
    · have hr : isRealtime b = true := decide_eq_true hreal
      simp [Parser.feed_realtime hr, hr, ih hrest]

/-- Settles O26. -/
theorem desyncedDataDiscarded : Obligations.DesyncedDataDiscarded :=
  ⟨fun v _ ht hd => exec_feedRow_silent rfl ht (Parser.feed_data_desynced hd (dataByte_lt v)),
    fun _ _ hd => Parser.feedAll_of_discards fun _ => Parser.feed_data_desynced hd⟩

/-- Settles O35: 0xF0 leaves no status, so the body's data bytes are stray, and so is the data byte after 0xF7. -/
theorem systemExclusiveBodyDiscarded : Obligations.SystemExclusiveBodyDiscarded := by
  intro p body v hbody
  have hstart : p.feed 0xF0#8 = (p.endDesync.clearTracking, none) := p.feed_systemByte 0
  have hall : p.endDesync.clearTracking.feedAll body =
      (p.endDesync.clearTracking, (body.filter isRealtime).map realtimeMsg) :=
    Parser.feedAll_of_discards (fun _ => Parser.feed_data_stray rfl rfl) hbody
  have hend (q : Parser) : q.feed 0xF7#8 = (q.endDesync.clearTracking, none) := q.feed_systemByte 7
  have hafter (q : Parser) : q.clearTracking.feed (dataByte v) = (q.clearTracking, none) :=
    Parser.feed_data_stray rfl rfl (dataByte_lt v)
  have hout : (p.feedAll (0xF0#8 :: body ++ [0xF7#8, dataByte v])).2 = (body.filter isRealtime).map realtimeMsg := by
    simp [Parser.feedAll_append, hstart, hall, hend, hafter]
  exact hout

/-- Settles O34: the real-time byte leaves the state that `u` left. -/
theorem realtimeTransparent : Obligations.RealtimeTransparent := by
  intro p u v r hr
  have hfeed (q : Parser) : q.feed r = (q, some (realtimeMsg r)) := Parser.feed_realtime (decide_eq_true hr) q
  have hmsg : realtimeMsg r = { status := r, d1 := 0x00#8, d2 := 0x00#8, len := .one } := rfl
  simp [Parser.feedAll_append, hfeed, hmsg]

/-! ## The message a FEED can emit -/

/-- What a FEED can emit: the message of a real-time byte, or the message that a data byte completes, with the
governing status and, for two data bytes, the one stashed (R140, R155, R157). -/
theorem Parser.feed_emits {p : Parser} {b : Byte} {m : MidiMsg} (h : (p.feed b).2 = some m) :
    (isRealtime b = true ∧ m = realtimeMsg b) ∨
    (b.toNat < 0x80 ∧ p.adopt.currentStatus ≠ 0x00#8 ∧ p.bytesNeeded = 1 ∧
      m = twoByteMsg p.adopt.currentStatus b) ∨
    (b.toNat < 0x80 ∧ p.adopt.currentStatus ≠ 0x00#8 ∧ p.bytesNeeded = 2 ∧ p.bytesHave = true ∧
      m = threeByteMsg p.adopt.currentStatus p.pendingD1 b) := by
  obtain ⟨hr, hf⟩ | ⟨-, -, -, hf⟩ | ⟨-, -, -, -, hf⟩ | ⟨-, -, -, -, hf⟩ | ⟨-, -, -, -, -, hf⟩ | ⟨-, -, hs, hst, hf⟩ :=
    p.feed_cases b <;> rw [hf] at h
  · exact .inl ⟨hr, (Option.some.inj h).symm⟩
  · cases h
  · cases h
  · cases h
  · cases h
  · have hb := (isStatus_eq_false_iff b).mp hs
    have hc := Parser.adopt_currentStatus_ne_zero hst
    obtain ⟨hn, hp⟩ | ⟨hn, hh, hp⟩ | ⟨-, -, hp⟩ | ⟨-, hp⟩ := p.adopt.collect_cases b <;> rw [hp] at h
    · exact .inr (.inl ⟨hb, hc, by simpa using hn, (Option.some.inj h).symm⟩)
    · exact .inr (.inr ⟨hb, hc, by simpa using hn, by simpa using hh, by simpa using (Option.some.inj h).symm⟩)
    · cases h
    · cases h

/-! ## No byte from before a FORCE_DESYNC -/

/-- Every status the parser holds, and its stashed data byte, is one of `bs`. -/
structure Parser.HoldsOnly (bs : List Byte) (p : Parser) : Prop where
  running : p.runningStatus ≠ 0x00#8 → p.runningStatus ∈ bs
  current : p.currentStatus ≠ 0x00#8 → p.currentStatus ∈ bs
  stashed : p.bytesHave = true → p.pendingD1 ∈ bs

/-- The status of `m`, and each data byte that its length counts, is one of `bs`. -/
def MadeOf (bs : List Byte) (m : MidiMsg) : Prop :=
  m.status ∈ bs ∧ (m.len ≠ .one → m.d1 ∈ bs) ∧ (m.len = .three → m.d2 ∈ bs)

theorem Parser.holdsOnly_forceDesync (bs : List Byte) (p : Parser) : p.forceDesync.HoldsOnly bs :=
  ⟨by simp, by simp, by simp⟩

theorem Parser.HoldsOnly.adopt {bs : List Byte} {p : Parser} (h : p.HoldsOnly bs) : p.adopt.HoldsOnly bs := by
  obtain ⟨-, ha⟩ | ⟨-, ha⟩ := p.adopt_cases <;> rw [ha]
  · exact ⟨h.running, h.running, h.stashed⟩
  · exact h

theorem Parser.HoldsOnly.collect {bs : List Byte} {p : Parser} (h : p.HoldsOnly bs) {b : Byte} (hb : b ∈ bs) :
    (p.collect b).1.HoldsOnly bs := by
  obtain ⟨-, hp⟩ | ⟨-, -, hp⟩ | ⟨-, -, hp⟩ | ⟨-, hp⟩ := p.collect_cases b <;> rw [hp]
  · exact ⟨h.running, by simp, h.stashed⟩
  · exact ⟨h.running, by simp, by simp⟩
  · exact ⟨h.running, h.current, fun _ => hb⟩
  · exact h

/-- FEED puts nothing but its own byte into the parser. -/
theorem Parser.HoldsOnly.feed {bs : List Byte} {p : Parser} (h : p.HoldsOnly bs) {b : Byte} (hb : b ∈ bs) :
    (p.feed b).1.HoldsOnly bs := by
  obtain ⟨-, hf⟩ | ⟨-, -, -, hf⟩ | ⟨-, -, -, -, hf⟩ | ⟨-, -, -, -, hf⟩ | ⟨-, -, -, -, -, hf⟩ | ⟨-, -, -, -, hf⟩ :=
    p.feed_cases b <;> rw [hf]
  · exact h
  · exact h
  · exact ⟨by simp, by simp, by simp⟩
  · exact ⟨fun _ => hb, fun _ => hb, by simp⟩
  · exact h
  · exact h.adopt.collect hb

/-- The message that FEED emits is made of what the parser holds and of its own byte. -/
theorem Parser.HoldsOnly.feed_madeOf {bs : List Byte} {p : Parser} (h : p.HoldsOnly bs) {b : Byte} (hb : b ∈ bs)
    {m : MidiMsg} (hm : (p.feed b).2 = some m) : MadeOf bs m := by
  obtain ⟨-, rfl⟩ | ⟨-, hc, -, rfl⟩ | ⟨-, hc, -, hh, rfl⟩ := Parser.feed_emits hm
  · exact ⟨hb, fun hl => absurd rfl hl, nofun⟩
  · exact ⟨h.adopt.current hc, fun _ => hb, nofun⟩
  · exact ⟨h.adopt.current hc, fun _ => h.stashed hh, fun _ => hb⟩

theorem Parser.HoldsOnly.feedAll_madeOf {bs cs : List Byte} {p : Parser} (h : p.HoldsOnly bs) (hcs : cs ⊆ bs) :
    ∀ m ∈ (p.feedAll cs).2, MadeOf bs m := by
  induction cs generalizing p with
  | nil => simp
  | cons c cs ih =>
    obtain ⟨hc, hrest⟩ := List.cons_subset.mp hcs
    intro m hm
    rw [Parser.feedAll_cons, List.mem_append, Option.mem_toList] at hm
    obtain hm | hm := hm
    · exact h.feed_madeOf hc hm
    · exact ih (h.feed hc) hrest m hm

/-- Settles O38: FORCE_DESYNC leaves a parser that holds nothing, and the bytes fed after it are all it gets. -/
theorem forceDesyncForgetsEarlierBytes : Obligations.ForceDesyncForgetsEarlierBytes := fun p bs =>
  ⟨fun q => congrArg (Parser.feedAll bs) (p.forceDesync_eq q),
    (p.holdsOnly_forceDesync bs).feedAll_madeOf (List.Subset.refl bs)⟩

/-! ## The legal messages -/

theorem kindOf_of_need_one {x : Byte} (h : need x = 1) : kindOf x = 0xC#4 ∨ kindOf x = 0xD#4 := by
  revert x
  decide

theorem kindOf_of_need_two {x : Byte} (hx : 0x80 ≤ x.toNat ∧ x.toNat ≤ 0xEF) (h : need x = 2) :
    kindOf x = 0x8#4 ∨ kindOf x = 0x9#4 ∨ kindOf x = 0xA#4 ∨ kindOf x = 0xB#4 ∨ kindOf x = 0xE#4 := by
  revert x
  decide

/-- In `WF` a message in progress has a channel-voice status, with the need of its kind (WF2 to WF4). -/
theorem Parser.WF.inProgress {p : Parser} (h : p.WF) (hc : p.currentStatus ≠ 0x00#8) :
    (0x80 ≤ p.currentStatus.toNat ∧ p.currentStatus.toNat ≤ 0xEF) ∧ p.bytesNeeded = need p.currentStatus := by
  obtain ⟨h2, h3, h4, -, -, -⟩ := h
  have hcr := h3.resolve_left hc
  rw [hcr] at hc ⊢
  exact ⟨h2.resolve_left hc, h4⟩

/-- A FEED from a parser of `WF` emits only legal messages: the need of the governing status decides the length, and
the data bytes have seven bits (R164). -/
theorem Parser.feed_msgLegal {p : Parser} (h : p.WF) {b : Byte} {m : MidiMsg} (hm : (p.feed b).2 = some m) :
    MsgLegal m := by
  obtain ⟨hr, rfl⟩ | ⟨hb, hc, hn, rfl⟩ | ⟨hb, hc, hn, -, rfl⟩ := Parser.feed_emits hm
  · exact ⟨of_decide_eq_true hr, rfl, rfl⟩
  · obtain ⟨-, hneed⟩ := (Parser.adopt_wf h).inProgress hc
    rw [Parser.adopt_bytesNeeded, hn] at hneed
    exact ⟨kindOf_of_need_one hneed.symm, hb, rfl⟩
  · obtain ⟨hrange, hneed⟩ := (Parser.adopt_wf h).inProgress hc
    rw [Parser.adopt_bytesNeeded, hn] at hneed
    obtain ⟨-, -, -, -, hd1, -⟩ := h
    exact ⟨kindOf_of_need_two hrange hneed.symm, hd1, hb⟩

/-- What a transaction can do to `out`: nothing, or append what one FEED emits (R36, R131). -/
theorem Effect.out_cases {s t : State} {i : Instr} (h : Effect s i t) :
    t.out = s.out ∨ ∃ b, t.out = s.out ++ (s.parser.feed b).2.toList := by
  cases h with
  | wrongContext | splitPopInFlight | push | popEmpty | popByte | takeOverflow | forceDesync | observeEmpty | latchPop
  | checkOverflow => exact .inl (by simp)
  | feed b => exact .inr ⟨b, rfl⟩
  | popAndFeed => exact .inr ⟨_, rfl⟩
  | commitPop => exact .inr ⟨_, rfl⟩

theorem Effect.outLegal {s t : State} {i : Instr} (h : Effect s i t) (hw : s.parser.WF) (ho : s.OutLegal) :
    t.OutLegal := by
  obtain hout | ⟨b, hout⟩ := h.out_cases
  · exact fun m hm => ho m (hout ▸ hm)
  · intro m hm
    rw [hout, List.mem_append, Option.mem_toList] at hm
    exact hm.elim (ho m) (Parser.feed_msgLegal hw)

/-- Settles O50: the issue of the next transaction touches neither the parser nor the log, and a refused word nothing
but the refusal. -/
theorem emittedMessagesLegal : Obligations.EmittedMessagesLegal := by
  intro s t hw ho h
  obtain ⟨i, -, he⟩ | ⟨r, -, rfl⟩ := step_effect h
  · exact he.outLegal hw ho
  · exact ho

end Sys2Proof.Machine
end

section
/-! SUPPORT. The sequencer (`42_sequencer.md`): what each STEP of the reference loop leaves behind, the split pop, and
the transaction that a step takes from the schedule. -/

namespace Sys2Proof.Machine

/-! ## The ring operations that STEP uses -/

/-- With legal indices the byte to pop is that of slot `tail` itself (WF1, R106). -/
theorem WF1.popByte_eq {s : State} (h : WF1 s) :
    s.params.popByte s.transport = s.transport.slots.read s.transport.tail := by
  obtain ⟨-, ht⟩ := h
  exact congrArg s.transport.slots.read (Nat.mod_eq_of_lt ht)

/-- With `tail` where it was latched, both draws of R184 write the same value. -/
theorem State.commitTail_of_latched {s : State} (h : s.sequencer.latchT = s.transport.tail) (r : Bool) :
    s.commitTail r = s.params.nextIndex s.transport.tail := by
  obtain hc | hc := s.commitTail_cases r
  · exact hc
  · rw [hc, h]

theorem Transport.clearOverflow_of_not_ovf {t : Transport} (h : t.ovf = false) : t.clearOverflow = t := by
  obtain ⟨slots, head, tail, ovf⟩ := t
  cases h
  rfl

theorem State.settled_iff (s : State) :
    s.settled = true ↔
      s.transport.head = s.transport.tail ∧ s.transport.ovf = false ∧ s.sequencer.phase = .poll := by
  simp [State.settled, Transport.isEmpty, and_assoc]

/-! ## The five outcomes of STEP from the consumer (R181) -/

/-- Settles O39. -/
theorem stepObservesEmptyBuffer : Obligations.StepObservesEmptyBuffer := by
  intro s hi hp he
  rw [exec_eq_next_iff.mpr (.observeEmpty hi hp he), State.respond_consumer _ s.observeEmpty hi]
  rfl

theorem exec_step_popAndFeed {s : State} (hi : s.issuer = .consumer) (hp : s.sequencer.phase = .poll)
    (he : s.transport.head ≠ s.transport.tail) (ha : s.params.atomicPop = true) (hw : WF1 s) :
    exec .step s = .next { s with
      transport := s.params.popAdvance s.transport
      parser := (s.parser.feed (s.transport.slots.read s.transport.tail)).1
      out := s.out ++ (s.parser.feed (s.transport.slots.read s.transport.tail)).2.toList
      consumerResponse := some .nothing } := by
  rw [exec_eq_next_iff.mpr (.popAndFeed hi hp he ha), State.respond_consumer _ s.popAndFeed hi, State.popAndFeed,
    hw.popByte_eq]
  rfl

/-- Settles O41. -/
theorem stepLatchesSplitPop : Obligations.StepLatchesSplitPop := by
  intro s hi hp he ha hw
  rw [exec_eq_next_iff.mpr (.latchPop hi hp he ha), State.respond_consumer _ s.latchPop hi, State.latchPop,
    hw.popByte_eq]

theorem exec_step_commitPop {s : State} (hi : s.issuer = .consumer) (hp : s.sequencer.phase = .commit) :
    exec .step s = .next { s with
      transport := { s.transport with tail := s.commitTail (Config.commitRereads s.draws) }
      parser := (s.parser.feed s.sequencer.latchB).1
      sequencer := { s.sequencer with phase := .poll }
      out := s.out ++ (s.parser.feed s.sequencer.latchB).2.toList
      consumerResponse := some .nothing
      draws := s.draws + 1 } := by
  rw [exec_eq_next_iff.mpr (.commitPop hi hp), State.respond_consumer _ (s.commitPop _) hi]
  rfl

/-- Settles O44. -/
theorem stepTakesOverflowAndDesyncs : Obligations.StepTakesOverflowAndDesyncs := by
  intro s hi hp
  rw [exec_eq_next_iff.mpr (.checkOverflow hi hp), State.respond_consumer _ s.checkOverflow hi]
  rfl

/-! ## The two pops of the loop -/

/-- FEED on the consumer's turn, field by field (R130, R132). -/
theorem exec_feedInstr_eq {s : State} (ht : s.ConsumerTurn) (b : Byte) :
    exec (feedInstr b) s = .next { s with
      parser := (s.parser.feed b).1
      out := s.out ++ (s.parser.feed b).2.toList
      consumerResponse := some (s.feedResponse b) } := by
  rw [exec_feedInstr_turn ht, State.feed_respond ht.left]

/-- Settles O40: POP leaves the consumer's turn, so the FEED of its byte is performed. -/
theorem stepPopsAndFeeds : Obligations.StepPopsAndFeeds := by
  intro s hi hp he ha hw
  have hne : s.sequencer.phase ≠ .commit := by simp [hp]
  refine ⟨_, _, popTakesByteAtTail s ⟨hi, hne⟩ hw he, rfl, exec_feedInstr_eq ?_ _, ?_, hp⟩
  · exact ⟨hi, hne⟩
  · exact exec_step_popAndFeed hi hp he ha hw

/-- Settles O42: the phase written makes it the consumer's turn to FEED the latched byte. -/
theorem stepCommitsSplitPop : Obligations.StepCommitsSplitPop := by
  intro s hi hp
  refine ⟨s.commitTail (Config.commitRereads s.draws), _, (s.commitTail_cases _).symm,
    exec_feedInstr_eq ?_ _, ?_⟩
  · exact ⟨hi, by simp⟩
  · exact exec_step_commitPop hi hp

/-- Settles O43: nothing moves `tail` between the halves, so either draw of the commit is the atomic pop's value. -/
theorem uninterruptedSplitPopIsAtomicPop : Obligations.UninterruptedSplitPopIsAtomicPop := by
  intro s hi hp he ha hw
  refine ⟨_, _, _, stepLatchesSplitPop s hi hp he ha hw, exec_step_commitPop hi rfl,
    exec_step_popAndFeed hi hp he rfl hw, ?_⟩
  rw [State.commitTail_of_latched rfl]
  rfl

/-! ## The split pop and the other consumer transactions -/

theorem State.feedResponse_ne_refused (b : Byte) (s : State) (r : RefusalReason) : s.feedResponse b ≠ .refused r := by
  cases h : (s.parser.feed b).2 with
  | none => simp [State.feedResponse_none h]
  | some m => simp [State.feedResponse_some h]

/-- On the consumer's turn a consumer transaction other than STEP is performed: it leaves the sequencer and the refusal
mark, and its response is no refusal (R186). -/
theorem Effect.performed {s t : State} {i : Instr} (h : Effect s i t) (ht : s.ConsumerTurn)
    (hc : i.context = .consumer) (hs : i ≠ .step) :
    t.sequencer = s.sequencer ∧ t.refusalMark = s.refusalMark ∧ ∀ r, t.consumerResponse ≠ some (.refused r) := by
  obtain ⟨hi, hp⟩ := ht
  cases h with
  | wrongContext _ hne => exact absurd (hi.trans hc.symm) hne
  | splitPopInFlight _ _ _ _ hcommit => exact absurd hcommit hp
  | push => cases hc
  | feed b => exact ⟨rfl, rfl, by simp [respond_consumerResponse, hi, State.feedResponse_ne_refused]⟩
  | popEmpty | popByte | takeOverflow | forceDesync =>
    exact ⟨rfl, rfl, by simp [respond_consumerResponse, hi]⟩
  | observeEmpty | popAndFeed | latchPop | commitPop | checkOverflow => exact absurd rfl hs

/-- Settles O21. -/
theorem splitPopAllowsOnlyStep : Obligations.SplitPopAllowsOnlyStep := by
  intro i s hi hpush hs
  have hc := context_eq_consumer hpush
  refine ⟨fun hp => ?_, fun hp => ?_⟩
  · rw [exec_splitPopInFlight hi hc hs hp, State.refuse_consumer hi]
  · obtain ⟨t, hx, he⟩ := exec_answers i s
    exact ⟨t, hx, he.performed ⟨hi, hp⟩ hc hs⟩

/-! ## The transaction of a step -/

theorem performWord_of_decode {w : TransactionWord} {i : Instr} (h : decode w = .ok i) (s : State) :
    performWord w s = exec i s := by
  rw [← encodeDecodeRoundTrip w i h, performWord_encode]

/-- Settles O6. -/
theorem stepPerformsDecodedTransaction : Obligations.StepPerformsDecodedTransaction := by
  intro s a w rest i hs hd
  rw [step_cons hs, performWord_of_decode hd]

/-- Settles O8. -/
theorem emptyScheduleRunsTheLoop : Obligations.EmptyScheduleRunsTheLoop := by
  intro s hs
  rw [step_eq_loopOnce hs, exec_step_consumer rfl, State.loopOnce_eq]

/-- The loop's empty observation (R183). -/
theorem step_observeEmpty {s : State} (hs : s.schedule = []) (hp : s.sequencer.phase = .poll)
    (he : s.transport.head = s.transport.tail) :
    step s = .next { s with
      sequencer := { s.sequencer with phase := .check }
      issuer := .consumer
      consumerResponse := some .nothing } := by
  rw [emptyScheduleRunsTheLoop s hs]
  exact stepObservesEmptyBuffer _ rfl hp he

/-- A Check of the loop that finds the flag clear leaves the transport and the parser alone (R185). -/
theorem step_check_not_ovf {s : State} (hs : s.schedule = []) (hp : s.sequencer.phase = .check)
    (ho : s.transport.ovf = false) :
    step s = .next { s with
      sequencer := { s.sequencer with phase := .poll }
      issuer := .consumer
      consumerResponse := some .nothing } := by
  have hflag : { s.transport with ovf := false } = s.transport := Transport.clearOverflow_of_not_ovf ho
  rw [emptyScheduleRunsTheLoop s hs, stepTakesOverflowAndDesyncs { s with issuer := .consumer } rfl hp]
  simp only [ho, hflag, Bool.false_eq_true, if_false]

/-- Settles O46. -/
theorem settledLoopOnlyAlternates : Obligations.SettledLoopOnlyAlternates := by
  intro s hs hset
  obtain ⟨he, ho, hp⟩ := s.settled_iff.mp hset
  have hphase : { s.sequencer with phase := .poll } = s.sequencer := by rw [← hp]
  refine ⟨_, rfl, step_observeEmpty hs hp he, (step_check_not_ovf ?_ rfl ?_).trans ?_⟩
  · exact hs
  · exact ho
  · simp only [hphase]

end Sys2Proof.Machine
end

section
/-! SUPPORT. The exceptions (`60_exceptions.md`): no transaction faults and each answers its issuer (R79, R200), only a
refusal sets the refusal mark (R204), and what each condition of the error taxonomy leaves behind (R201). -/

namespace Sys2Proof.Machine

/-! ## The response goes to the issuer -/

/-- From `s` to `t` the agent that issued in `s` got response `r`, and the other agent kept the one it had (R79). -/
def RespondsTo (s t : State) (r : Response) : Prop :=
  (s.issuer = .producer → t.producerResponse = some r ∧ t.consumerResponse = s.consumerResponse) ∧
  (s.issuer = .consumer → t.consumerResponse = some r ∧ t.producerResponse = s.producerResponse)

theorem State.respond_respondsTo (s : State) (r : Response) : RespondsTo s (s.respond r) r :=
  ⟨fun h => by simp [State.respond_producer r s h], fun h => by simp [State.respond_consumer r s h]⟩

theorem State.refuse_respondsTo (s : State) (r : RefusalReason) : RespondsTo s (s.refuse r) (.refused r) :=
  State.respond_respondsTo { s with refusalMark := true } _

/-- Every transaction ends with one response: its run touches neither the issuer nor the responses before (R79). -/
theorem Effect.respondsTo {s t : State} {i : Instr} (h : Effect s i t) : ∃ r, RespondsTo s t r := by
  cases h with
  | wrongContext | splitPopInFlight => exact ⟨_, s.refuse_respondsTo _⟩
  | popEmpty => exact ⟨_, s.respond_respondsTo _⟩
  | push | popByte | takeOverflow => exact ⟨_, (s.withTransport _).respond_respondsTo _⟩
  | feed b => exact ⟨_, (s.feed b).respond_respondsTo _⟩
  | forceDesync => exact ⟨_, (s.withParser _).respond_respondsTo _⟩
  | observeEmpty => exact ⟨_, s.observeEmpty.respond_respondsTo _⟩
  | popAndFeed => exact ⟨_, s.popAndFeed.respond_respondsTo _⟩
  | latchPop => exact ⟨_, s.latchPop.respond_respondsTo _⟩
  | commitPop => exact ⟨_, (s.commitPop _).respond_respondsTo _⟩
  | checkOverflow => exact ⟨_, s.checkOverflow.respond_respondsTo _⟩

/-- A step performs a transaction, which answers, or refuses a reserved word, which is a next state (R82, R200). -/
theorem step_answers (s : State) : ∃ t, step s = .next t := by
  obtain ⟨i, -, hw⟩ | ⟨r, -, hw⟩ := performWord_cases (nextIssue s).word s.issued
  · obtain ⟨t, hx, -⟩ := exec_answers i s.issued
    exact ⟨t, hw.trans hx⟩
  · exact ⟨_, hw⟩

/-- Settles O10. -/
theorem everyTransactionAnswers : Obligations.EveryTransactionAnswers := by
  refine ⟨fun i s => ?_, step_answers⟩
  obtain ⟨t, hx, he⟩ := exec_answers i s
  obtain ⟨r, hr⟩ := he.respondsTo
  exact ⟨t, r, hx, hr⟩

/-! ## The refusal mark -/

/-- A transaction is refused, or it leaves the refusal mark alone (R204). -/
theorem Effect.refusalMark_cases {s t : State} {i : Instr} (h : Effect s i t) :
    (∃ r, t = s.refuse r) ∨ t.refusalMark = s.refusalMark := by
  cases h with
  | wrongContext | splitPopInFlight => exact .inl ⟨_, rfl⟩
  | push | popEmpty | popByte | takeOverflow | feed | forceDesync => exact .inr (by simp)
  | observeEmpty | popAndFeed | latchPop | commitPop | checkOverflow => exact .inr (by simp)

/-- A step is refused, as a transaction or as a reserved word, or it leaves the refusal mark alone (R82, R204). -/
theorem step_refusalMark_cases {s t : State} (h : step s = .next t) :
    (∃ r, t = s.issued.refuse r) ∨ t.refusalMark = s.refusalMark := by
  obtain ⟨i, -, he⟩ | ⟨r, -, ht⟩ := step_effect h
  · exact he.refusalMark_cases
  · exact .inl ⟨r, ht⟩

/-- Settles O22. -/
theorem refusalMarkIsSticky : Obligations.RefusalMarkIsSticky := by
  intro s t h
  obtain ⟨r, rfl⟩ | hm := step_refusalMark_cases h
  · refine ⟨fun _ => State.refuse_refusalMark _ _, fun _ _ => ⟨⟨r, ?_⟩, rfl, rfl, rfl, rfl, rfl⟩⟩
    obtain ⟨hprod, hcons⟩ := s.issued.refuse_respondsTo r
    cases hi : s.issued.issuer with
    | producer => exact .inl ⟨hi, (hprod hi).left⟩
    | consumer => exact .inr ⟨hi, (hcons hi).left⟩
  · refine ⟨fun h1 => hm.trans h1, fun h0 h1 => ?_⟩
    simp [hm, h0] at h1

/-! ## The error taxonomy -/

/-- What a transaction that meets the label leaves behind, in terms of the block's own operations (R201). -/
def ErrorLabel.Leaves (s t : State) : ErrorLabel → Prop
  | .overflow => (∃ b, t.transport = s.params.overflowPush b s.transport) ∧ t.parser = s.parser
  | .desync => t.parser = s.parser.forceDesync ∧ t.out = s.out
  | .ignoredSystem => t.parser = s.parser.endDesync.clearTracking ∧ t.out = s.out
  | .stray => t.parser = s.parser ∧ t.out = s.out

theorem byteClass_eq_system {b : Byte} (h : byteClass b = .system) :
    isRealtime b = false ∧ isStatus b = true ∧ isSystem b = true := by
  revert b; decide

theorem byteClass_eq_data {b : Byte} (h : byteClass b = .data) : b.toNat < 0x80 := by
  revert b; decide

/-- Any system status ends a desync and clears the tracking (R142, R143). -/
theorem Parser.feed_system {b : Byte} (h : byteClass b = .system) (p : Parser) :
    p.feed b = (p.endDesync.clearTracking, none) := by
  obtain ⟨hr, hs, hy⟩ := byteClass_eq_system h
  have hd : isData b = false := by simpa [isData] using (isStatus_iff b).mp hs
  simp [Parser.feed, Parser.statusCase, hr, hd, hs, hy]

/-- A FEED meets a condition by its byte's class, and then completes no message (R143, R153). -/
theorem feedCondition_cases {b : Byte} {p : Parser} {l : ErrorLabel} (h : feedCondition b p = some l) :
    (l = .ignoredSystem ∧ p.feed b = (p.endDesync.clearTracking, none)) ∨
    (l = .stray ∧ p.feed b = (p, none)) := by
  cases hb : byteClass b with
  | system =>
    have hl : ErrorLabel.ignoredSystem = l := by simpa [feedCondition, hb] using h
    exact .inl ⟨hl.symm, Parser.feed_system hb p⟩
  | data =>
    obtain ⟨⟨-, hc, hrs⟩, hl⟩ :
        (p.desynced = false ∧ p.currentStatus = 0x00#8 ∧ p.runningStatus = 0x00#8) ∧ ErrorLabel.stray = l := by
      simpa [feedCondition, hb] using h
    exact .inr ⟨hl.symm, Parser.feed_data_stray hc hrs (byteClass_eq_data hb)⟩
  | channelVoice | realtime => simp [feedCondition, hb] at h

theorem feedCondition_leaves {b : Byte} {s t : State} {l : ErrorLabel} (h : feedCondition b s.parser = some l)
    (hp : t.parser = (s.parser.feed b).1) (ho : t.out = s.out ++ (s.parser.feed b).2.toList) : l.Leaves s t := by
  obtain ⟨rfl, hf⟩ | ⟨rfl, hf⟩ := feedCondition_cases h <;>
    exact ⟨by rw [hp, hf], by rw [ho, hf, Option.toList_none, List.append_nil]⟩

/-- A refused transaction meets no condition (R202, log 14). -/
theorem isRefused_eq_false {i : Instr} {s : State} {l : ErrorLabel} (h : errorCondition i s = some l) :
    isRefused i s = false := by
  by_contra hr
  simp [errorCondition, hr] at h

theorem errorCondition_feedRow {i : Instr} (hi : isFeedRow i = true) (s : State) :
    errorCondition i s = if isRefused i s then none else feedCondition i.argByte s.parser := by
  cases i with
  | push _ | pop | takeOverflow | forceDesync | step => cases hi
  | feedData _ | feedSystem _ | feedRealtime _ => rfl
  | feedNoteOff _ | feedNoteOn _ | feedPolyPressure _ | feedControlChange _ => rfl
  | feedProgramChange _ | feedChannelPressure _ | feedPitchBend _ => rfl

theorem feedCondition_of_errorCondition {b : Byte} {s : State} {l : ErrorLabel}
    (h : errorCondition (feedInstr b) s = some l) : feedCondition b s.parser = some l := by
  simpa [errorCondition_feedRow (isFeedRow_feedInstr b), isRefused_eq_false h, argByte_feedInstr] using h

theorem stepCondition_of_errorCondition {s : State} {l : ErrorLabel} (h : errorCondition .step s = some l) :
    stepCondition s = some l := by
  simpa [errorCondition, isRefused_eq_false h] using h

/-- A transaction that meets a condition leaves what its label says (R201, R202). -/
theorem Effect.leaves {s t : State} {i : Instr} {l : ErrorLabel} (h : Effect s i t)
    (hl : errorCondition i s = some l) : l.Leaves s t := by
  have hperf := isRefused_eq_false hl
  cases h with
  | wrongContext _ hi => simp [isRefused, contextAllows, hi] at hperf
  | splitPopInFlight _ hi _ hs hp => simp [isRefused, hi, hs, hp] at hperf
  | push b =>
    obtain ⟨hf, rfl⟩ : s.params.isFull s.transport = true ∧ ErrorLabel.overflow = l := by
      simpa [errorCondition, hperf] using hl
    exact ⟨⟨b, Params.push_of_isFull hf b⟩, rfl⟩
  | popEmpty | popByte | takeOverflow => simp [errorCondition] at hl
  | feed b => exact feedCondition_leaves (feedCondition_of_errorCondition hl) rfl rfl
  | forceDesync =>
    obtain rfl : ErrorLabel.desync = l := by simpa [errorCondition, hperf] using hl
    exact ⟨rfl, rfl⟩
  | observeEmpty _ hp he => simpa [stepCondition, Transport.isEmpty, hp, he] using stepCondition_of_errorCondition hl
  | popAndFeed _ hp he ha =>
    have hc := stepCondition_of_errorCondition hl
    simp only [stepCondition, hp, Transport.isEmpty, he, ha] at hc
    exact feedCondition_leaves hc rfl rfl
  | latchPop _ hp _ ha => simpa [stepCondition, hp, ha] using stepCondition_of_errorCondition hl
  | commitPop _ hp =>
    have hc := stepCondition_of_errorCondition hl
    simp only [stepCondition, hp] at hc
    exact feedCondition_leaves hc rfl rfl
  | checkOverflow _ hp =>
    obtain ⟨ho, rfl⟩ : s.transport.ovf = true ∧ ErrorLabel.desync = l := by
      simpa [stepCondition, hp] using stepCondition_of_errorCondition hl
    exact ⟨by simp [ho], rfl⟩

/-- Settles O60. -/
theorem errorConditionsHaveTheirEffects : Obligations.ErrorConditionsHaveTheirEffects := by
  intro i s t h
  have he := exec_effect h
  refine ⟨fun hl => ?_, fun hl => he.leaves hl, fun hl => ?_, fun hl => he.leaves hl⟩
  · obtain ⟨⟨b, ht⟩, hp⟩ := he.leaves hl
    simp [ht, hp]
  · obtain ⟨hp, ho⟩ := he.leaves hl
    simp [hp, ho]

end Sys2Proof.Machine
end

section
/-! SUPPORT. Reset and the hazards (`70_reset_and_hazards.md`): what reset leaves, that an overflow taken by STEP always
desyncs (R244), and that the reset value of `desynced` is not observable (R234). -/

namespace Sys2Proof.Machine

/-! ## The reset values -/

/-- Settles O11: the values are those of the reset state as it is written; `k` is a successor, so at least 1 (R8). -/
theorem resetValues : Obligations.ResetValues := by
  refine ⟨fun p => ?_, Config.ringBits, Nat.le_add_left 1 Config.ringBitsLessOne, rfl⟩
  have hempty : (State.resetWith p).transport.isEmpty = true := (Transport.isEmpty_iff _).mpr rfl
  have hidle : (State.resetWith p).parser.absState = .idle := Parser.absState_idle rfl rfl
  exact ⟨rfl, rfl, rfl, rfl, rfl, rfl, rfl, rfl, rfl, rfl, rfl, rfl, rfl, rfl, hempty, hidle, rfl⟩

/-! ## No overflow is missed -/

/-- Settles O45: of the transport's changes only the flag's clear takes `ovf`, and STEP makes it in Check alone, where
it desyncs (R185). -/
theorem stepNeverLosesAnOverflow : Obligations.StepNeverLosesAnOverflow := by
  intro s t h ho
  obtain ht | ⟨-, b, hb, -⟩ | ⟨-, x, ht⟩ | ⟨hi, htake | ⟨-, hp⟩, -⟩ := (exec_effect h).transport_cases
  · exact .inl (by rw [ht, ho])
  · cases hb
  · exact .inl (by rw [ht, ho])
  · cases htake
  · cases (stepTakesOverflowAndDesyncs s hi hp).symm.trans h
    exact .inr ⟨hp, by simp [ho]⟩

/-! ## Parsers that differ in an unobservable desync -/

/-- `q` is `p`, or `p` has no status at all and `q` is `p` with `desynced` set: in both, data bytes are discarded, as
stray or by the desync (R141, R153). -/
inductive Parser.SameUpToDesync (p : Parser) : Parser → Prop
  | refl : p.SameUpToDesync p
  | desynced (hc : p.currentStatus = 0x00#8) (hr : p.runningStatus = 0x00#8) :
      p.SameUpToDesync { p with desynced := true }

/-- A status byte below `0xF8` ends a desync before anything else, so the flag does not reach its case (R142). -/
theorem Parser.feed_status {b : Byte} (hr : isRealtime b = false) (hs : isStatus b = true) (p : Parser) :
    p.feed b = p.endDesync.statusCase b := by
  have hd : isData b = false := by simpa [isData] using (isStatus_iff b).mp hs
  simp [Parser.feed, hr, hd, hs]

/-- FEED emits the same from both parsers, and leaves them the same up to the desync (R42). -/
theorem Parser.SameUpToDesync.feed {p q : Parser} (h : p.SameUpToDesync q) (b : Byte) :
    (q.feed b).2 = (p.feed b).2 ∧ (p.feed b).1.SameUpToDesync (q.feed b).1 := by
  cases h with
  | refl => exact ⟨rfl, .refl⟩
  | desynced hc hrs =>
    cases hr : isRealtime b with
    | true =>
      rw [Parser.feed_realtime hr, Parser.feed_realtime hr]
      exact ⟨rfl, .desynced hc hrs⟩
    | false =>
      cases hs : isStatus b with
      | true =>
        rw [Parser.feed_status hr hs, Parser.feed_status hr hs]
        exact ⟨rfl, .refl⟩
      | false =>
        have hb := (isStatus_eq_false_iff b).mp hs
        rw [Parser.feed_data_stray hc hrs hb, Parser.feed_data_desynced rfl hb]
        exact ⟨rfl, .desynced hc hrs⟩

/-! ## Runs from states that differ in such parsers -/

/-- With a parser that emits the same message, FEED leaves the same state but for the parser. -/
theorem State.feed_withParser {s : State} {q : Parser} {b : Byte} (h : (q.feed b).2 = (s.parser.feed b).2) :
    (s.withParser q).feed b = (s.feed b).withParser (q.feed b).1 := by
  simp only [State.feed, State.emit, State.withParser, h]

theorem State.feedResponse_withParser {s : State} {q : Parser} {b : Byte}
    (h : (q.feed b).2 = (s.parser.feed b).2) : (s.withParser q).feedResponse b = s.feedResponse b := by
  simp only [State.feedResponse, State.withParser, h]

theorem State.popAndFeed_withParser {s : State} {q : Parser}
    (h : (q.feed (s.params.popByte s.transport)).2 = (s.parser.feed (s.params.popByte s.transport)).2) :
    (s.withParser q).popAndFeed = s.popAndFeed.withParser (q.feed (s.params.popByte s.transport)).1 :=
  State.feed_withParser (s := s.withTransport (s.params.popAdvance s.transport)) h

theorem State.commitPop_withParser {s : State} {q : Parser}
    (h : (q.feed s.sequencer.latchB).2 = (s.parser.feed s.sequencer.latchB).2) (r : Bool) :
    (s.withParser q).commitPop r = (s.commitPop r).withParser (q.feed s.sequencer.latchB).1 :=
  State.feed_withParser (s := { (s.withTransport { s.transport with tail := s.commitTail r }).withPhase .poll with
    draws := s.draws + 1 }) h

/-- What `R` does from `s` to `t`, it does as well from `s` with parser `q`: it leads to `t` with a parser that is the
same up to the desync. -/
def Mirrored (R : State → State → Prop) (s t : State) (q : Parser) : Prop :=
  ∃ q' : Parser, t.parser.SameUpToDesync q' ∧ R (s.withParser q) (t.withParser q')

/-- Any transaction does the same from both states: it reads the parser only in a FEED, and FORCE_DESYNC discards it
(R130, R160). -/
theorem Effect.mirrored {s t : State} {i : Instr} {q : Parser} (h : Effect s i t) (hq : s.parser.SameUpToDesync q) :
    Mirrored (Effect · i ·) s t q := by
  cases h with
  | wrongContext _ hi => exact ⟨q, hq, .wrongContext (s := s.withParser q) _ hi⟩
  | splitPopInFlight _ hi hc hs hp => exact ⟨q, hq, .splitPopInFlight (s := s.withParser q) _ hi hc hs hp⟩
  | push b hi => exact ⟨q, hq, .push (s := s.withParser q) b hi⟩
  | popEmpty ht he => exact ⟨q, hq, .popEmpty (s := s.withParser q) ht he⟩
  | popByte ht he => exact ⟨q, hq, .popByte (s := s.withParser q) ht he⟩
  | takeOverflow ht => exact ⟨q, hq, .takeOverflow (s := s.withParser q) ht⟩
  | observeEmpty hi hp he => exact ⟨q, hq, .observeEmpty (s := s.withParser q) hi hp he⟩
  | latchPop hi hp he ha => exact ⟨q, hq, .latchPop (s := s.withParser q) hi hp he ha⟩
  | forceDesync ht => exact ⟨_, .refl, .forceDesync (s := s.withParser q) ht⟩
  | feed b ht =>
    obtain ⟨hm, hq'⟩ := hq.feed b
    have heffect := Effect.feed (s := s.withParser q) b ht
    rw [State.feed_withParser hm, State.feedResponse_withParser hm] at heffect
    exact ⟨_, hq', heffect⟩
  | popAndFeed hi hp he ha =>
    obtain ⟨hm, hq'⟩ := hq.feed (s.params.popByte s.transport)
    have heffect := Effect.popAndFeed (s := s.withParser q) hi hp he ha
    rw [State.popAndFeed_withParser hm] at heffect
    exact ⟨_, hq', heffect⟩
  | commitPop hi hp =>
    obtain ⟨hm, hq'⟩ := hq.feed s.sequencer.latchB
    have heffect := Effect.commitPop (s := s.withParser q) hi hp
    rw [State.commitPop_withParser hm] at heffect
    exact ⟨_, hq', heffect⟩
  | checkOverflow hi hp =>
    refine ⟨_, ?_, .checkOverflow (s := s.withParser q) hi hp⟩
    cases ho : s.transport.ovf with
    | true => simpa [ho, Parser.forceDesync_eq q s.parser] using Parser.SameUpToDesync.refl
    | false => simpa [ho] using hq

/-- A step takes the same word in both states. -/
theorem step_mirrored {s t : State} {q : Parser} (h : step s = .next t) (hq : s.parser.SameUpToDesync q) :
    Mirrored (fun u v => step u = .next v) s t q := by
  obtain ⟨i, hd, he⟩ | ⟨r, hd, rfl⟩ := step_effect h
  · obtain ⟨q', hq', he'⟩ := he.mirrored (q := q) hq
    exact ⟨q', hq', (performWord_of_decode hd _).trans (exec_eq_next_iff.mpr he')⟩
  · refine ⟨q, hq, ?_⟩
    have hw : performWord (nextIssue s).word (s.issued.withParser q) = .next ((s.issued.withParser q).refuse r) := by
      simp only [performWord, hd]
    exact hw

theorem run_of_step {s t : State} (h : step s = .next t) (n : Nat) :
    Host.Core.run core (n + 1) s = Host.Core.run core n t := by
  have hstep : core.step s = .next t := h
  simp only [Host.Core.run, hstep]

/-- Every run answers, and mirrors the run from the other state. -/
theorem run_mirrored (n : Nat) {s : State} {q : Parser} (hq : s.parser.SameUpToDesync q) :
    ∃ t, Host.Core.run core n s = .next t ∧ Mirrored (fun u v => Host.Core.run core n u = .next v) s t q := by
  induction n generalizing s q with
  | zero => exact ⟨s, rfl, q, hq, rfl⟩
  | succ n ih =>
    obtain ⟨u, hu⟩ := step_answers s
    obtain ⟨q', hq', hu'⟩ := step_mirrored hu hq
    obtain ⟨t, ht, q'', hq'', ht'⟩ := ih hq'
    exact ⟨t, (run_of_step hu n).trans ht, q'', hq'', (run_of_step hu' n).trans ht'⟩

/-- Settles O52: the reset parser has no status, so its desync is unobservable, and the mirrored run ends in a state
that differs in the parser alone. -/
theorem desyncAtResetIsInvisible : Obligations.DesyncAtResetIsInvisible := by
  intro p issues n
  have hq : (State.resetWith p).parser.SameUpToDesync { (State.resetWith p).parser with desynced := true } :=
    .desynced rfl rfl
  obtain ⟨t, ht, q, -, hu⟩ := run_mirrored n (s := { State.resetWith p with schedule := issues }) hq
  exact ⟨t, t.withParser q, ht, hu, rfl, rfl, rfl, rfl⟩

end Sys2Proof.Machine
end
